-- ==== Sys2Proof/Word.lean ====
section
/-! DEFINITION. The one raw unit the part's links carry: the byte. -/

namespace Sys2Proof

/-- A byte of a packet, transaction or record (R187). -/
abbrev Byte := BitVec 8

end Sys2Proof
end

