-- ==== Sys2Proof/Syntax.lean ====
section
/-! DEFINITION. The commands: one constructor of `Instr` per row of spec/opcode_table.json, with what the
environment supplies for it. A request row carries no operand of its own: its operands lie in the request at the
head of the request buffer (R175), where a PUT placed them (R171, R172). -/

namespace Sys2Proof

/-- The two surfaces, and so the two scan links (chapter 1). -/
inductive SurfaceId where
  | pad | panel
  deriving DecidableEq, Repr

/-- What caused a hardware reset (R184): power-on, or RESET_N held low. -/
inductive ResetSource where
  | powerOn | resetPin
  deriving DecidableEq, Repr

/-- The levels of the strap pins when they are sampled (R184). -/
structure Straps where
  refsel : BitVec 3
  panelEn : Bool
  linkPhase : Bool
  deriving DecidableEq, Repr

/-- The eight header bytes of a scan packet as received (R188). -/
structure ScanHeader where
  kind : Byte
  sequence : Byte
  driveCount : Byte
  senseCount : Byte
  format : Byte
  flags : Byte
  payloadCount : BitVec 16
  deriving DecidableEq, Repr

/-- A POSTURE notice packet sound in CRC and length (R15): its tag and its payload. -/
structure PostureNotice where
  tag : Byte
  payload : List Byte
  deriving DecidableEq, Repr

/-- One run of the TRACKING_STEP (R86): the surface, and the POSTURE notices that are taken while it runs, which are no
events on the contact table (R16, R86, R109): those between the rejection stage and the gesture stage, and those between
the gesture stage and the frame report, in order (notes/assumptions/19.md). -/
structure TrackingRun where
  surface : SurfaceId
  afterRejection : List PostureNotice := []
  afterGestures : List PostureNotice := []
  deriving DecidableEq, Repr

/-- The rows of spec/opcode_table.json, in the table's order. -/
inductive Instr where
  /-- HARDWARE_RESET (R184): power-on, or RESET_N taken low. -/
  | hardwareReset (source : ResetSource)
  /-- START_UP (R184): 2 ms after the release, with the strap levels it samples. -/
  | startUp (straps : Straps)
  /-- TIME_BASE_TICK (R184): one thousandth of a second of the reference has passed. -/
  | timeBaseTick
  /-- SCAN_PACKET (R18): the declared payload bytes and the two CRC bytes have arrived; the CRC bytes are given in the
  order of their arrival. -/
  | scanPacket (link : SurfaceId) (payload : List Byte) (crc : Byte × Byte)
  /-- OVERSIZE (R17): the last header byte has arrived and declares more than 8064 bytes. -/
  | oversize (link : SurfaceId) (header : ScanHeader)
  /-- TRUNCATED (R17): 2 ms without a byte in HEADER or PAYLOAD. -/
  | truncated (link : SurfaceId)
  /-- FRAME_TIMEOUT (R8): the expiry of a surface's frame timeout timer is taken. -/
  | frameTimeout (surface : SurfaceId)
  /-- BASELINE_STAGE (R37) of the surface's IMAGE frame in flight. -/
  | baselineStage (surface : SurfaceId)
  /-- REGION_STAGE (R54, R72) of the surface's IMAGE frame in flight. -/
  | regionStage (surface : SurfaceId)
  /-- TRACKING_STEP (R86) of the surface's IMAGE frame in flight, with the POSTURE notices that meet it. -/
  | trackingStep (run : TrackingRun)
  /-- PEN_STAGE (R127) of PANEL's PEN frame in flight. -/
  | penStage
  /-- TYPING_GUARD_EXPIRY (R116). -/
  | typingGuardExpiry
  /-- LINGER_DEADLINE (R120). -/
  | lingerDeadline
  /-- RELAY_TRANSMIT_COMPLETE (R28): the last CRC byte has left the return lane. -/
  | relayTransmitComplete (link : SurfaceId)
  /-- PUT (R171): the whole bytes sent after the transaction code, at the release of SYS_SEL. -/
  | put (bytes : List Byte)
  /-- POSTURE (R15): a notice packet of that code, sound in CRC and length, with its tag and payload. -/
  | posture (tag : Byte) (payload : List Byte)
  /-- KEY_ACTIVITY (R115): a notice packet of that code, sound in CRC and length, with its tag and payload. -/
  | keyActivity (tag : Byte) (payload : List Byte)
  /-- TAKE (R168): SYS_SEL falls and the code byte is TAKE. -/
  | take
  /-- STATUS (R168): SYS_SEL falls and the code byte is STATUS. -/
  | status
  /-- UNKNOWN_TRANSACTION_CODE (R168): SYS_SEL falls and the code byte is none of the three. -/
  | unknownTransactionCode (code : Byte)
  /-- TRANSACTION_RELEASE (R169): SYS_SEL rises after `sent` bytes of the header and record have been sent. -/
  | transactionRelease (sent : Nat)
  /-- ATTN_MAX_DELAY (R173): the head record reaches max_delay of age. -/
  | attnMaxDelay
  /-- UNKNOWN_REQUEST (R175). -/
  | unknownRequest
  /-- DESCRIBE (R179). -/
  | describe
  /-- START (R4). -/
  | start
  /-- STOP (R12). -/
  | stop
  /-- REBASE (R10). -/
  | rebase
  /-- LOAD_TABLE (R178). -/
  | loadTable
  /-- READ_TABLE (R178). -/
  | readTable
  /-- SET_PARAMS (R177). -/
  | setParams
  /-- READ_PARAMS (R177). -/
  | readParams
  /-- READ_STATUS (R180). -/
  | readStatus
  /-- CLEAR_FAULT (R182). -/
  | clearFault
  /-- CAPTURE (R183). -/
  | capture
  /-- READ_CAPTURE (R183). -/
  | readCapture
  /-- RELAY (R28). -/
  | relay
  /-- SOFT_RESET (R186). -/
  | softReset
  /-- FULL_RESET (R185). -/
  | fullReset
  /-- START_DELIMITER (R17): the delimiter byte 7Eh arrives. -/
  | startDelimiter (link : SurfaceId)
  /-- HEADER_COMPLETE (R17): the last header byte arrives. -/
  | headerComplete (link : SurfaceId) (header : ScanHeader)
  deriving DecidableEq, Repr

end Sys2Proof
end

