-- ==== Sys2Proof/Machine/State.lean ====
section
/-! DEFINITION. The part's state as plain data: every block, table, register, slot, queue, counter, flag and pin
the spec names, each with the rule that names it, and the value of all of it right after a hardware reset. -/

namespace Sys2Proof.Machine

/-! ## Enumerations (the names of R187's table) -/

/-- The surface states of chapter 1. ABSENT (R1) is what READ_STATUS shows for an absent PANEL, not a state. -/
inductive SurfaceState where
  | stopped | acquiring | running | stalled
  deriving DecidableEq, Repr

/-- R15. -/
inductive Posture where
  | laptop | stand | tent | tablet | closed
  deriving DecidableEq, Repr

/-- The classes of R74. -/
inductive TouchClass where
  | finger | thumb | palm | grip | large | unknown
  deriving DecidableEq, Repr

/-- The slot states of R84. -/
inductive SlotState where
  | free | tentative | active | held | suppressed | ending
  deriving DecidableEq, Repr

/-- The suppression reasons of R84. -/
inductive Reason where
  | byClass | byZone | byTyping | byPen | byPosture
  deriving DecidableEq, Repr

/-- The entry states of R99. -/
inductive EntryState where
  | down | move | up | cancel
  deriving DecidableEq, Repr

/-- The closing kinds of R85. -/
inductive ClosingKind where
  | up | cancel
  deriving DecidableEq, Repr

/-- The pen states of R126. -/
inductive PenState where
  | outOfRange | hover | contact
  deriving DecidableEq, Repr

/-- How a pen frame's data was obtained (R126). -/
inductive Quality where
  | clean | corrected | held
  deriving DecidableEq, Repr

/-- The gesture engine's states (R145). -/
inductive EngineState where
  | idle | gathering | committed | blocked
  deriving DecidableEq, Repr

/-- The reasons an END carries (R159). -/
inductive EndReason where
  | normal | cancelled
  deriving DecidableEq, Repr

/-- The gesture kinds (R146). -/
inductive GestureKind where
  | tap | drag | pinch | press
  deriving DecidableEq, Repr

/-- The directions (R146), in the order of R187. -/
inductive Direction where
  | any | up | down | left | right | inward | outward | either
  deriving DecidableEq, Repr

/-- The edge conditions (R69). -/
inductive EdgeCondition where
  | any | edge | interior
  deriving DecidableEq, Repr

/-- The zone policies (R75). -/
inductive ZonePolicy where
  | openZone | hesitant | blockNew | blockAll
  deriving DecidableEq, Repr

/-- The polarity of GEOMETRY (chapter 3). -/
inductive Polarity where
  | positive | negative
  deriving DecidableEq, Repr

/-- The sample formats (R21). -/
inductive SampleFormat where
  | s16 | u12p
  deriving DecidableEq, Repr

/-- The pen modes (R117). -/
inductive PenMode where
  | off | area | all
  deriving DecidableEq, Repr

/-- The handedness of R119. -/
inductive Handedness where
  | right | left
  deriving DecidableEq, Repr

/-- The report modes of REPORTING. -/
inductive ReportMode where
  | contacts | gestures | both
  deriving DecidableEq, Repr

/-- The response codes, in the order of chapter 11's table. -/
inductive ResponseCode where
  | ok | clamped | badLength | unknownRequest | noSurface | badTable | badIndex | badValue | surfaceRunning
  | surfaceStopped | notReady | busy | aborted
  deriving DecidableEq, Repr

/-- The fault kinds, in the order of R181's table. -/
inductive FaultKind where
  | scanCrc | scanLength | seqGap | scanOverrun | scanTimeout | autoRebase | regionOverflow | tableFull
  | penUncorrectable | queueDrop | packetCrc | requestRefused
  deriving DecidableEq, Repr

/-- The fault sources (R181). -/
inductive FaultSource where
  | padLink | panelLink | systemLink | pen | queue | tracker
  deriving DecidableEq, Repr

/-- The reset causes (R168, R170). -/
inductive ResetCause where
  | none | powerOn | resetPin | fullReset
  deriving DecidableEq, Repr

/-- The reasons a scan packet fails its form (R17, R20). -/
inductive LengthReason where
  | kind | penOnPad | count | format | length | oversize | truncated
  deriving DecidableEq, Repr

/-- The reasons a downstream packet is faulty (R171). -/
inductive PacketReason where
  | crc | length | kind | noticeCode | noticeValue
  deriving DecidableEq, Repr

/-- The item codes of a NOT_READY response (R4). -/
inductive ReadyItem where
  | geometry | lineMap | detection | reporting | rejection | classTable | zone | gesture | pen | pressureCurve
  | mapConflict | deadLimit
  deriving DecidableEq, Repr

/-- The capture kinds (R48). -/
inductive CaptureKind where
  | raw | delta | baseline
  deriving DecidableEq, Repr

/-- The sections of READ_STATUS (R180). -/
inductive StatusSection where
  | surfaces | pen | gesture | slots | fault | counters
  deriving DecidableEq, Repr

/-- The tables (R178). -/
inductive TableId where
  | lineMap | classTable | zone | gesture | pressureCurve
  deriving DecidableEq, Repr

/-- The parameter blocks (R177). -/
inductive BlockId where
  | geometry | detection | reporting | rejection | pen | queue
  deriving DecidableEq, Repr

/-! ## Parameter blocks (R177, R190) -/

/-- GEOMETRY. -/
structure Geometry where
  driveChannels : Nat
  senseChannels : Nat
  driveLines : Nat
  senseLines : Nat
  polarity : Polarity
  format : SampleFormat
  deriving DecidableEq, Repr

/-- DETECTION. -/
structure Detection where
  touchThreshold : Nat
  noiseFloor : Nat
  acquireFrames : Nat
  driftInterval : Nat
  driftStep : Nat
  negativeThreshold : Nat
  anomalyFrames : Nat
  contactLimit : Nat
  confirmFrames : Nat
  coastFrames : Nat
  trackGate : Nat
  frameTimeout : Nat
  deriving DecidableEq, Repr

/-- REPORTING. Bit k of the mask is posture k of R187 (R16). -/
structure Reporting where
  lx : Nat
  ly : Nat
  swap : Bool
  invertX : Bool
  invertY : Bool
  mask : BitVec 5
  mode : ReportMode
  settleFrames : Nat
  deriving DecidableEq, Repr

/-- REJECTION of PAD (chapter 7). -/
structure PadRejection where
  guardTime : Nat
  hesitantTravel : Nat
  hesitantFrames : Nat
  deriving DecidableEq, Repr

/-- REJECTION of PANEL (chapter 7). -/
structure PanelRejection where
  penMode : PenMode
  handedness : Handedness
  ahead : Nat
  back : Nat
  above : Nat
  below : Nat
  linger : Nat
  shadowRadius : Nat
  deriving DecidableEq, Repr

/-- PEN (R142). -/
structure PenBlock where
  hoverThreshold : Nat
  penHold : Nat
  deriving DecidableEq, Repr

/-- QUEUE (chapter 10). Bit k of the mask is fault kind k of R187. -/
structure QueueBlock where
  attentionThreshold : Nat
  almostFull : Nat
  maxDelay : Nat
  captureMask : BitVec 12
  deriving DecidableEq, Repr

/-! ## Tables (R190) -/

/-- A line map entry (R30); no line is NOT_FITTED. -/
structure LineEntry where
  line : Option Nat
  dead : Bool
  deriving DecidableEq, Repr

/-- A class table entry (R69). -/
structure ClassEntry where
  used : Bool
  areaMin : Nat
  areaMax : Nat
  peakMin : Nat
  peakMax : Nat
  widthMin : Nat
  widthMax : Nat
  heightMin : Nat
  heightMax : Nat
  densityMin : Nat
  densityMax : Nat
  edge : EdgeCondition
  result : TouchClass
  deriving DecidableEq, Repr

/-- A zone map entry (R75). -/
structure ZoneEntry where
  used : Bool
  x0 : Nat
  y0 : Nat
  x1 : Nat
  y1 : Nat
  laptop : ZonePolicy
  stand : ZonePolicy
  tent : ZonePolicy
  tablet : ZonePolicy
  closed : ZonePolicy
  deriving DecidableEq, Repr

/-- A gesture table entry (R146). -/
structure GestureEntry where
  used : Bool
  kind : GestureKind
  fingers : Nat
  direction : Direction
  threshold : Nat
  limit : Nat
  maxTime : Nat
  capture : Bool
  code : Nat
  deriving DecidableEq, Repr

/-- A pressure curve point with its loaded mark (R138). -/
structure CurvePoint where
  value : Nat
  loaded : Bool
  deriving DecidableEq, Repr

/-! ## Images, frames and regions -/

/-- An image on the sensor's lines: D rows of S values, drive-major (chapter 0, Conventions). -/
abbrev Image := List (List Int)

/-- The receive framer (R17); in PAYLOAD it holds the header it completed. -/
inductive Framer where
  | hunting
  | header
  | payload (header : ScanHeader)
  deriving DecidableEq, Repr

/-- A good IMAGE frame (R23); its samples are in front-end order. -/
structure ImageFrame where
  sequence : Byte
  elapsed : Nat
  switchClosed : Bool
  arrival : BitVec 32
  samples : List Int
  deriving DecidableEq, Repr

/-- A good PEN frame (R23); the word is present when the pen word flag is. -/
structure PenFrame where
  sequence : Byte
  elapsed : Nat
  word : Option (BitVec 26)
  arrival : BitVec 32
  samples : List Int
  deriving DecidableEq, Repr

/-- A region record (R59 to R63) with the class the classifier adds (R72); its index is its place in the list. -/
structure Region where
  area : Nat
  peak : Int
  sum : Int
  weight : Int
  driveFirst : Nat
  driveLast : Nat
  senseFirst : Nat
  senseLast : Nat
  width : Nat
  height : Nat
  density : Int
  edge : Bool
  x : Int
  y : Int
  touch : TouchClass
  deriving DecidableEq, Repr

/-- The changes a RUNNING frame's baseline stage makes, which take hold at its completion (R37). -/
structure BaselineUpdate where
  baseline : Image
  driftCounter : Nat
  anomalyCount : Nat
  deriving DecidableEq, Repr

/-- How far an IMAGE frame in flight has come (R6, R37, R54). -/
inductive ImageProgress where
  | taken
  | baselined (delta : Image) (update : BaselineUpdate)
  | extracted (regions : List Region) (update : BaselineUpdate)
  deriving DecidableEq, Repr

/-- An IMAGE frame in flight (R13, R25). -/
structure ImageFlight where
  frame : ImageFrame
  progress : ImageProgress
  deriving DecidableEq, Repr

/-- The event counters of one link (R27). -/
structure LinkCounters where
  crcErrors : Nat
  lengthErrors : Nat
  seqGaps : Nat
  overruns : Nat
  timeouts : Nat
  regionOverflows : Nat
  tableFull : Nat
  autoRebases : Nat
  deriving DecidableEq, Repr

/-- One surface's context: what both surfaces have (chapters 1 to 5). -/
structure Surface where
  /-- R2 -/
  status : SurfaceState
  geometry : Geometry
  geometryReady : Bool
  detection : Detection
  detectionReady : Bool
  reporting : Reporting
  reportingReady : Bool
  /-- R30: 128 entries -/
  lineMap : List LineEntry
  lineMapLoaded : Bool
  /-- R69: 16 entries -/
  classTable : List ClassEntry
  classReady : Bool
  /-- R75: 8 entries -/
  zoneMap : List ZoneEntry
  zoneReady : Bool
  /-- R17 -/
  framer : Framer
  /-- R22: none is unset -/
  expectedImage : Option Byte
  expectedPen : Option Byte
  /-- R7: milliseconds until the frame timeout; none is stopped -/
  timer : Option Nat
  /-- R8: sequence of the last good frame since the surface was started -/
  lastGood : Byte
  /-- R24 -/
  imageSlot : Option ImageFrame
  penSlot : Option PenFrame
  /-- R25 -/
  imageFlight : Option ImageFlight
  penFlight : Option PenFrame
  /-- R28: the bytes of the relay packet being sent; none is empty -/
  relay : Option (List Byte)
  counters : LinkCounters
  /-- R36 -/
  baseline : Image
  baselineValid : Bool
  sums : Image
  collected : Nat
  driftCounter : Nat
  anomalyCount : Nat
  /-- R103: sequence of the last IMAGE frame to complete its tracking step since the last reset -/
  lastTracked : Byte
  deriving DecidableEq, Repr

/-! ## The contact table (R84, R85) -/

/-- A closing record with its snapshot (R85). -/
structure Closing where
  kind : ClosingKind
  x : Int
  y : Int
  touch : TouchClass
  area : Nat
  peak : Int
  held : Bool
  deriving DecidableEq, Repr

/-- A slot of the contact table (R84). -/
structure Slot where
  state : SlotState
  surface : SurfaceId
  contact : Nat
  touch : TouchClass
  mark : Bool
  reason : Option Reason
  x : Int
  y : Int
  firstX : Int
  firstY : Int
  vx : Int
  vy : Int
  area : Nat
  peak : Int
  age : Nat
  missing : Nat
  announced : Bool
  closed : Bool
  closing : Option Closing
  deriving DecidableEq, Repr

/-- A FREE slot, every field cleared (R107). Which surface and which class a cleared field holds is not stated: PAD and
FINGER, code 0 of each (DESIGN CHOICE, notes/assumptions/10.md). -/
def Slot.cleared : Slot :=
  { state := .free, surface := .pad, contact := 0, touch := .finger, mark := false, reason := none, x := 0, y := 0,
    firstX := 0, firstY := 0, vx := 0, vy := 0, area := 0, peak := 0, age := 0, missing := 0, announced := false,
    closed := false, closing := none }

/-! ## Pen, linger and gesture engine -/

/-- The pen record (R126). -/
structure PenRecord where
  state : PenState
  x : Int
  y : Int
  coasting : Bool
  missing : Nat
  raw : Nat
  tip : Bool
  barrel : Bool
  eraser : Bool
  batteryLow : Bool
  tag : Nat
  quality : Quality
  dataAge : Nat
  lastSequence : Byte
  deriving DecidableEq, Repr

/-- The pen record after every reset: the last column of R126. -/
def PenRecord.atReset : PenRecord :=
  { state := .outOfRange, x := 0, y := 0, coasting := false, missing := 0, raw := 0, tip := false, barrel := false,
    eraser := false, batteryLow := false, tag := 0, quality := .held, dataAge := 255, lastSequence := 0 }

/-- The linger state when present (R120). -/
structure Linger where
  deadline : BitVec 32
  x : Int
  y : Int
  deriving DecidableEq, Repr

/-- The drag or pinch in progress (R145, R153). -/
structure Committed where
  kind : GestureKind
  code : Nat
  x : Int
  y : Int
  spread : Int
  deriving DecidableEq, Repr

/-- An END not yet placed, with the sequence and timestamp it was emitted with (R160). -/
structure PendingEnd where
  number : Nat
  reason : EndReason
  sequence : Byte
  timestamp : BitVec 16
  deriving DecidableEq, Repr

/-- The gesture engine's state (R145); `number` is the spec's gesture number of the latest gesture begun. -/
structure Gesture where
  state : EngineState
  number : Nat
  members : List (Nat × Nat)
  hold : Nat
  anchorX : Int
  anchorY : Int
  anchorSpread : Int
  anchorTime : BitVec 32
  episodeStart : BitVec 32
  greatest : Nat
  fingerTravel : Nat
  tapEligible : Bool
  committed : Option Committed
  pendingEnd : Option PendingEnd
  switchSeen : Bool
  deriving DecidableEq, Repr

/-- The engine after every reset: the last column of R145. -/
def Gesture.atReset : Gesture :=
  { state := .idle, number := 0, members := [], hold := 0, anchorX := 0, anchorY := 0, anchorSpread := 0,
    anchorTime := 0, episodeStart := 0, greatest := 0, fingerTravel := 0, tapEligible := false, committed := none,
    pendingEnd := none, switchSeen := false }

/-! ## Records (R159, R189) -/

/-- One contact's line in a frame report (R99). -/
structure FrameEntry where
  contact : Nat
  state : EntryState
  touch : TouchClass
  held : Bool
  x : Int
  y : Int
  area : Nat
  peak : Int
  deriving DecidableEq, Repr

/-- The body of a FRAME_REPORT (R101). -/
structure FrameReport where
  surface : SurfaceId
  switchClosed : Bool
  merged : Nat
  entries : List FrameEntry
  deriving DecidableEq, Repr

/-- The body of a PEN_REPORT (R141). -/
structure PenReport where
  state : PenState
  x : Int
  y : Int
  pressure : Int
  tip : Bool
  barrel : Bool
  eraser : Bool
  batteryLow : Bool
  coasting : Bool
  tag : Nat
  quality : Quality
  merged : Nat
  deriving DecidableEq, Repr

/-- The body of a BEGIN (R153). -/
structure GestureBegin where
  number : Nat
  kind : GestureKind
  code : Nat
  fingers : Nat
  direction : Direction
  x : Int
  y : Int
  merged : Nat
  deriving DecidableEq, Repr

/-- The body of an UPDATE (R154). -/
structure GestureUpdate where
  number : Nat
  dx : Int
  dy : Int
  dspread : Int
  fingers : Nat
  merged : Nat
  deriving DecidableEq, Repr

/-- The fault record when full (R181). -/
structure FaultRecord where
  kind : FaultKind
  source : FaultSource
  sequence : Byte
  detail : Nat
  timestamp : BitVec 16
  more : Bool
  deriving DecidableEq, Repr

/-- A record's kind and body (R162, R189). -/
inductive Body where
  | frameReport (report : FrameReport)
  | penReport (report : PenReport)
  | gestureBegin (event : GestureBegin)
  | gestureUpdate (event : GestureUpdate)
  | gestureEnd (number : Nat) (reason : EndReason) (merged : Nat)
  | tap (code fingers duration merged : Nat)
  | press (code fingers merged : Nat)
  | release (fingers merged : Nat)
  | relay (surface : SurfaceId) (bytes : List Byte)
  | response (request : Byte) (code : ResponseCode) (data : List Byte)
  | alert (fault : FaultRecord)
  deriving DecidableEq, Repr

/-- A record in the report queue: its header fields, its placement time (R162) and its body. -/
structure Record where
  sequence : Byte
  timestamp : BitVec 16
  placed : BitVec 32
  body : Body
  deriving DecidableEq, Repr

/-! ## Management and the system link -/

/-- An accepted request (R172, R188). -/
structure Request where
  code : Byte
  tag : Byte
  payload : List Byte
  deriving DecidableEq, Repr

/-- A RAW or DELTA capture awaiting its image (R183). -/
structure PendingCapture where
  tag : Byte
  surface : SurfaceId
  kind : CaptureKind
  deriving DecidableEq, Repr

/-- The capture buffer's content (R48). -/
structure CaptureBuffer where
  surface : SurfaceId
  kind : CaptureKind
  driveLines : Nat
  senseLines : Nat
  sequence : Byte
  arrival : BitVec 32
  valid : Bool
  image : Image
  deriving DecidableEq, Repr

/-- A transaction in progress on the system link (R168 to R170): what SYS_SDO sends after the code byte, and what
its release may clear or remove. -/
structure Transaction where
  out : List Byte
  sendsHeader : Bool
  delivering : Bool
  recordLength : Nat
  clearsPacketError : Bool
  clearsRequestRefused : Bool
  clearsCause : Bool
  deriving DecidableEq, Repr

/-- The spec gives the part no fault that stops it: a fault is counted and captured, and the part goes on (R181).
So the type has no constructor. -/
inductive Fault where
  deriving DecidableEq, Repr

/-- The reasons a command has no meaning here. -/
inductive Refusal where
  /-- Raised by `exec` alone, for a row that has no meaning yet; safe: the model stops. No arm raises it now. -/
  | notModelled (mnemonic : String)
  deriving DecidableEq, Repr

/-- The whole part, and the queue of commands waiting for it. -/
structure State where
  /-- R184: start-up is complete; until then the part is held idle -/
  started : Bool
  /-- R184: the strap levels as sampled -/
  straps : Straps
  /-- R184: reference cycles per millisecond, as REFSEL selected -/
  cyclesPerTick : Nat
  /-- R184: the time base's millisecond count -/
  time : BitVec 32
  /-- R170 -/
  resetCause : ResetCause
  pad : Surface
  panel : Surface
  padRejection : PadRejection
  padRejectionReady : Bool
  panelRejection : PanelRejection
  panelRejectionReady : Bool
  penBlock : PenBlock
  penBlockReady : Bool
  /-- R146: 16 entries -/
  gestureTable : List GestureEntry
  gestureReady : Bool
  /-- R138: 9 points -/
  curve : List CurvePoint
  /-- R84: 16 slots -/
  slots : List Slot
  nextContact : Nat
  /-- R102 -/
  switchReported : Bool
  /-- R115: milliseconds remaining; none is stopped -/
  guard : Option Nat
  /-- R120 -/
  linger : Option Linger
  /-- R126 -/
  pen : PenRecord
  penCorrected : Nat
  penUncorrectable : Nat
  /-- R145 -/
  gesture : Gesture
  /-- R162: oldest at the head -/
  queue : List Record
  mergedCount : Nat
  deferredCount : Nat
  droppedCount : Nat
  queueBlock : QueueBlock
  /-- R173: the ATTN pin -/
  attn : Bool
  /-- R170 -/
  packetError : Bool
  requestRefused : Bool
  /-- R171, R172 -/
  packetCrcCount : Nat
  refusedCount : Nat
  /-- R168: the transaction SYS_SEL holds open; none while SYS_SEL is high -/
  transaction : Option Transaction
  /-- R175: up to four, head first -/
  buffer : List Request
  /-- R25, R176: the request at the head has waited for a frame in flight, and holds its frames until it is executed -/
  headWaited : Bool
  /-- R183 -/
  pendingCapture : Option PendingCapture
  /-- R48: none is empty -/
  captureBuffer : Option CaptureBuffer
  /-- R181: none is empty -/
  fault : Option FaultRecord
  /-- R15 -/
  posture : Posture
  /-- the model's own: how many free values have been read -/
  free : Nat
  /-- the model's own: the commands waiting, first in, first out -/
  pending : List Instr
  deriving DecidableEq, Repr

/-! ## Reset values -/

/-- All fields 0, enumerations at their first value (R177). -/
def Geometry.atReset : Geometry :=
  { driveChannels := 0, senseChannels := 0, driveLines := 0, senseLines := 0, polarity := .positive, format := .s16 }

/-- R177. -/
def Detection.atReset : Detection :=
  { touchThreshold := 0, noiseFloor := 0, acquireFrames := 0, driftInterval := 0, driftStep := 0,
    negativeThreshold := 0, anomalyFrames := 0, contactLimit := 0, confirmFrames := 0, coastFrames := 0,
    trackGate := 0, frameTimeout := 0 }

/-- R177. -/
def Reporting.atReset : Reporting :=
  { lx := 0, ly := 0, swap := false, invertX := false, invertY := false, mask := 0, mode := .contacts,
    settleFrames := 0 }

/-- R122. -/
def PadRejection.atReset : PadRejection := { guardTime := 0, hesitantTravel := 0, hesitantFrames := 0 }

/-- R122. -/
def PanelRejection.atReset : PanelRejection :=
  { penMode := .off, handedness := .right, ahead := 0, back := 0, above := 0, below := 0, linger := 0,
    shadowRadius := 0 }

/-- R142. -/
def PenBlock.atReset : PenBlock := { hoverThreshold := 0, penHold := 0 }

/-- The defaults of chapter 10: SCAN_CRC, SCAN_LENGTH, SCAN_OVERRUN, SCAN_TIMEOUT, PEN_UNCORRECTABLE and
PACKET_CRC are kinds 0, 1, 3, 4, 8 and 10. -/
def QueueBlock.atReset : QueueBlock :=
  { attentionThreshold := 1, almostFull := 48, maxDelay := 0, captureMask := 0b010100011011 }

/-- R30: NOT_FITTED with dead clear. -/
def LineEntry.atReset : LineEntry := { line := none, dead := false }

/-- R69. -/
def ClassEntry.atReset : ClassEntry :=
  { used := false, areaMin := 0, areaMax := 0, peakMin := 0, peakMax := 0, widthMin := 0, widthMax := 0,
    heightMin := 0, heightMax := 0, densityMin := 0, densityMax := 0, edge := .any, result := .finger }

/-- R75. -/
def ZoneEntry.atReset : ZoneEntry :=
  { used := false, x0 := 0, y0 := 0, x1 := 0, y1 := 0, laptop := .openZone, stand := .openZone, tent := .openZone,
    tablet := .openZone, closed := .openZone }

/-- R146. -/
def GestureEntry.atReset : GestureEntry :=
  { used := false, kind := .tap, fingers := 1, direction := .any, threshold := 0, limit := 0, maxTime := 0,
    capture := false, code := 1 }

/-- R138. -/
def CurvePoint.atReset : CurvePoint := { value := 0, loaded := false }

/-- R27. -/
def LinkCounters.zero : LinkCounters :=
  { crcErrors := 0, lengthErrors := 0, seqGaps := 0, overruns := 0, timeouts := 0, regionOverflows := 0,
    tableFull := 0, autoRebases := 0 }

/-- A surface after hardware reset (R2, R30, R35, R53, R69, R75, R177). With the line counts 0 its images hold no
node. -/
def Surface.atReset : Surface :=
  { status := .stopped, geometry := .atReset, geometryReady := false, detection := .atReset, detectionReady := false,
    reporting := .atReset, reportingReady := false, lineMap := List.replicate 128 .atReset, lineMapLoaded := false,
    classTable := List.replicate 16 .atReset, classReady := false, zoneMap := List.replicate 8 .atReset,
    zoneReady := false, framer := .hunting, expectedImage := none, expectedPen := none, timer := none, lastGood := 0,
    imageSlot := none, penSlot := none, imageFlight := none, penFlight := none, relay := none, counters := .zero,
    baseline := [], baselineValid := false, sums := [], collected := 0, driftCounter := 0, anomalyCount := 0,
    lastTracked := 0 }

/-- The part as power-on leaves it, before start-up (R184): every item at its hardware-reset value, no strap
sampled yet. The strap levels and the cycles per millisecond are the model's until START_UP (DESIGN CHOICE,
notes/assumptions/1.md); so is the counter of free values. -/
def State.reset : State :=
  { started := false, straps := { refsel := 0, panelEn := false, linkPhase := false }, cyclesPerTick := 12000,
    time := 0, resetCause := .powerOn, pad := .atReset, panel := .atReset, padRejection := .atReset,
    padRejectionReady := false, panelRejection := .atReset, panelRejectionReady := false, penBlock := .atReset,
    penBlockReady := false, gestureTable := List.replicate 16 .atReset, gestureReady := false,
    curve := List.replicate 9 .atReset, slots := List.replicate 16 .cleared, nextContact := 1,
    switchReported := false, guard := none, linger := none, pen := .atReset, penCorrected := 0,
    penUncorrectable := 0, gesture := .atReset, queue := [], mergedCount := 0, deferredCount := 0, droppedCount := 0,
    queueBlock := .atReset, attn := false, packetError := false, requestRefused := false, packetCrcCount := 0,
    refusedCount := 0, transaction := none, buffer := [], headWaited := false, pendingCapture := none,
    captureBuffer := none, fault := none, posture := .laptop, free := 0, pending := [] }

end Sys2Proof.Machine
end

