-- ==== Sys2Proof/Machine/Arith.lean ====
section
/-! DEFINITION. The arithmetic of the Conventions: rounded, truncated and clamped results, distances, saturating
counts, and lists read by number. -/

namespace Sys2Proof.Machine

/-- "Rounded" (Conventions): the quotient of `n` by a positive `d`, nearest, ties upward. -/
def rounded (n d : Int) : Int := (2 * n + d) / (2 * d)

/-- Brought to the nearer end of lo..hi. -/
def clampInt (lo hi v : Int) : Int := max lo (min hi v)

/-- Brought to the nearer end of lo..hi (R177). -/
def clampNat (lo hi v : Nat) : Nat := max lo (min hi v)

/-- Manhattan distance (Conventions). -/
def distance (x1 y1 x2 y2 : Int) : Nat := (x1 - x2).natAbs + (y1 - y2).natAbs

/-- A 16-bit event counter raised by `n`, saturating at 65535 (R27). -/
def bump (counter n : Nat) : Nat := min 65535 (counter + n)

/-- Saturation at the ends of a signed 16-bit value (R38, R165). -/
def clamp16 (v : Int) : Int := clampInt (-32768) 32767 v

/-- The numbers 0 to n−1. -/
def upTo (n : Nat) : List Nat := List.range n

/-- Change the element at `i`, if there is one. -/
def modifyAt {α : Type} (f : α → α) : Nat → List α → List α
  | _, [] => []
  | 0, x :: xs => f x :: xs
  | i + 1, x :: xs => x :: modifyAt f i xs

/-- Write `new` at consecutive places from `i` (R178). -/
def writeFrom {α : Type} (i : Nat) (new old : List α) : List α := old.take i ++ new ++ old.drop (i + new.length)

/-- Cut a list into pieces of `k`; the last may be shorter. The first argument bounds the pieces. -/
def piecesOf {α : Type} (k : Nat) : Nat → List α → List (List α)
  | 0, _ => []
  | _ + 1, [] => []
  | fuel + 1, xs => xs.take k :: piecesOf k fuel (xs.drop k)

/-- The place of the last element that has `p`. -/
def lastWhere {α : Type} (p : α → Bool) : List α → Option Nat
  | [] => none
  | x :: xs =>
    match lastWhere p xs with
    | some i => some (i + 1)
    | none => if p x then some 0 else none

/-- The sum of a list. -/
def total (xs : List Int) : Int := xs.foldl (· + ·) 0

end Sys2Proof.Machine
end

