-- ==== Sys2Proof/Machine/Codes.lean ====
section
/-! DEFINITION. The codes of enumerated fields: R187's table, each enumeration in code order. -/

namespace Sys2Proof.Machine

/-- The position of a value in its enumeration's order (R187). -/
def codeIn {α : Type} [DecidableEq α] (order : List α) (a : α) : Nat := order.idxOf a

/-- The value an enumeration byte holds; none when it is outside the set (R187). -/
def valueIn {α : Type} (order : List α) (code : Nat) : Option α := order[code]?

def surfaceOrder : List SurfaceId := [.pad, .panel]
def surfaceStateOrder : List SurfaceState := [.stopped, .acquiring, .running, .stalled]
def postureOrder : List Posture := [.laptop, .stand, .tent, .tablet, .closed]
def touchOrder : List TouchClass := [.finger, .thumb, .palm, .grip, .large, .unknown]
def slotStateOrder : List SlotState := [.free, .tentative, .active, .held, .suppressed, .ending]
def reasonOrder : List Reason := [.byClass, .byZone, .byTyping, .byPen, .byPosture]
def entryStateOrder : List EntryState := [.down, .move, .up, .cancel]
def penStateOrder : List PenState := [.outOfRange, .hover, .contact]
def qualityOrder : List Quality := [.clean, .corrected, .held]
def engineStateOrder : List EngineState := [.idle, .gathering, .committed, .blocked]
def endReasonOrder : List EndReason := [.normal, .cancelled]
def gestureKindOrder : List GestureKind := [.tap, .drag, .pinch, .press]
def directionOrder : List Direction := [.any, .up, .down, .left, .right, .inward, .outward, .either]
def edgeOrder : List EdgeCondition := [.any, .edge, .interior]
def zonePolicyOrder : List ZonePolicy := [.openZone, .hesitant, .blockNew, .blockAll]
def polarityOrder : List Polarity := [.positive, .negative]
def sampleFormatOrder : List SampleFormat := [.s16, .u12p]
def penModeOrder : List PenMode := [.off, .area, .all]
def handednessOrder : List Handedness := [.right, .left]
def reportModeOrder : List ReportMode := [.contacts, .gestures, .both]
def responseOrder : List ResponseCode :=
  [.ok, .clamped, .badLength, .unknownRequest, .noSurface, .badTable, .badIndex, .badValue, .surfaceRunning,
   .surfaceStopped, .notReady, .busy, .aborted]
def faultKindOrder : List FaultKind :=
  [.scanCrc, .scanLength, .seqGap, .scanOverrun, .scanTimeout, .autoRebase, .regionOverflow, .tableFull,
   .penUncorrectable, .queueDrop, .packetCrc, .requestRefused]
def faultSourceOrder : List FaultSource := [.padLink, .panelLink, .systemLink, .pen, .queue, .tracker]
def resetCauseOrder : List ResetCause := [.none, .powerOn, .resetPin, .fullReset]
def lengthReasonOrder : List LengthReason :=
  [.kind, .penOnPad, .count, .format, .length, .oversize, .truncated]
def packetReasonOrder : List PacketReason := [.crc, .length, .kind, .noticeCode, .noticeValue]
def readyItemOrder : List ReadyItem :=
  [.geometry, .lineMap, .detection, .reporting, .rejection, .classTable, .zone, .gesture, .pen, .pressureCurve,
   .mapConflict, .deadLimit]
def captureKindOrder : List CaptureKind := [.raw, .delta, .baseline]
def statusSectionOrder : List StatusSection := [.surfaces, .pen, .gesture, .slots, .fault, .counters]
def tableOrder : List TableId := [.lineMap, .classTable, .zone, .gesture, .pressureCurve]
def blockOrder : List BlockId := [.geometry, .detection, .reporting, .rejection, .pen, .queue]

/-- The closing kind's code: its entry state's (R187 gives both one row). -/
def ClosingKind.entryState : ClosingKind → EntryState
  | .up => .up
  | .cancel => .cancel

/-- The link of a surface as a fault source (R26). -/
def linkSource : SurfaceId → FaultSource
  | .pad => .padLink
  | .panel => .panelLink

/-- The record kind codes (R189). -/
def Body.kindCode : Body → Nat
  | .frameReport _ => 1
  | .penReport _ => 2
  | .gestureBegin _ => 3
  | .gestureUpdate _ => 4
  | .gestureEnd _ _ _ => 5
  | .tap _ _ _ _ => 6
  | .press _ _ _ => 7
  | .release _ _ => 8
  | .relay _ _ => 9
  | .response _ _ _ => 10
  | .alert _ => 11

end Sys2Proof.Machine
end

