-- ==== Sys2Proof/Machine/Bytes.lean ====
section
/-! DEFINITION. Byte order, flag bytes and the CRC-16 (R187, R19), and the layouts of records and of the status
header (R188, R189). -/

namespace Sys2Proof.Machine

/-- A one-byte field. -/
def byteOf (n : Nat) : Byte := BitVec.ofNat 8 n

/-- A two-byte field, least significant byte first, two's complement when negative (R187). -/
def le16 (v : Int) : List Byte :=
  let w := BitVec.ofInt 16 v
  [w.extractLsb' 0 8, w.extractLsb' 8 8]

/-- A four-byte field (R187). -/
def le32 (w : BitVec 32) : List Byte :=
  [w.extractLsb' 0 8, w.extractLsb' 8 8, w.extractLsb' 16 8, w.extractLsb' 24 8]

/-- A two-byte field as received. -/
def word16 (lo hi : Byte) : Nat := lo.toNat + 256 * hi.toNat

/-- The two-byte field at an offset. -/
def word16At (bytes : List Byte) (i : Nat) : Nat := word16 (bytes.getD i 0) (bytes.getD (i + 1) 0)

/-- The one-byte field at an offset. -/
def byteAt (bytes : List Byte) (i : Nat) : Nat := (bytes.getD i 0).toNat

/-- A flag byte: bits 0 upward in the order listed (R187). -/
def flagByte (flags : List Bool) : Byte :=
  byteOf (flags.foldr (fun b rest => (if b then 1 else 0) + 2 * rest) 0)

/-- An enumerated field (R187). -/
def enumByte {α : Type} [DecidableEq α] (order : List α) (a : α) : Byte := byteOf (codeIn order a)

/-- An optional enumerated field: 255 when absent (R187). -/
def enumByteOpt {α : Type} [DecidableEq α] (order : List α) : Option α → Byte
  | some a => enumByte order a
  | none => 255

/-- The low 16 bits of the time-base count (Conventions). -/
def low16 (t : BitVec 32) : BitVec 16 := t.extractLsb' 0 16

/-- The low 16 bits as two bytes. -/
def stamp (t : BitVec 16) : List Byte := [t.extractLsb' 0 8, t.extractLsb' 8 8]

/-- One bit into the CRC of polynomial x^16 + x^12 + x^5 + 1 (R19), most significant bit first (PRESUMED,
notes/assumptions/2.md). -/
def crcBit (c : BitVec 16) (b : Bool) : BitVec 16 :=
  if c.msb != b then (c <<< 1) ^^^ 0x1021 else c <<< 1

/-- One byte into the CRC. -/
def crcByte (c : BitVec 16) (x : Byte) : BitVec 16 :=
  [7, 6, 5, 4, 3, 2, 1, 0].foldl (fun c i => crcBit c (x.getLsbD i)) c

/-- CRC-16 over bytes in the order received, from all ones (R19). -/
def crc16 (bytes : List Byte) : BitVec 16 := bytes.foldl crcByte 0xFFFF

/-- The header bytes as received (R188). -/
def headerBytes (h : ScanHeader) : List Byte :=
  [h.kind, h.sequence, h.driveCount, h.senseCount, h.format, h.flags] ++ stamp h.payloadCount

/-- What a relay packet sends on the return lane (R28, R188). -/
def relayPacket (bytes : List Byte) : List Byte :=
  let counted := byteOf bytes.length :: bytes
  0x7E :: counted ++ stamp (crc16 counted)

/-- The bits of a byte in the order they pass on the system link (R167). -/
def bitsOnLink (b : Byte) : List Bool := [7, 6, 5, 4, 3, 2, 1, 0].map b.getLsbD

/-! ## Record bodies (R189) -/

/-- A frame-report entry: 12 bytes. -/
def FrameEntry.bytes (e : FrameEntry) : List Byte :=
  [byteOf e.contact, enumByte entryStateOrder e.state, enumByte touchOrder e.touch, flagByte [e.held]]
    ++ le16 e.x ++ le16 e.y ++ le16 e.area ++ le16 e.peak

/-- The body bytes of a record (R189). -/
def Body.bytes : Body → List Byte
  | .frameReport r =>
    [enumByte surfaceOrder r.surface, flagByte [r.switchClosed], byteOf r.merged, byteOf r.entries.length]
      ++ r.entries.flatMap FrameEntry.bytes
  | .penReport p =>
    [enumByte penStateOrder p.state] ++ le16 p.x ++ le16 p.y ++ le16 p.pressure
      ++ [flagByte [p.tip, p.barrel, p.eraser, p.batteryLow, p.coasting], byteOf p.tag,
          enumByte qualityOrder p.quality, byteOf p.merged]
  | .gestureBegin b =>
    [byteOf b.number, enumByte gestureKindOrder b.kind, byteOf b.code, byteOf b.fingers,
      enumByte directionOrder b.direction] ++ le16 b.x ++ le16 b.y ++ [byteOf b.merged]
  | .gestureUpdate u =>
    [byteOf u.number] ++ le16 u.dx ++ le16 u.dy ++ le16 u.dspread ++ [byteOf u.fingers, byteOf u.merged]
  | .gestureEnd number reason merged => [byteOf number, enumByte endReasonOrder reason, byteOf merged]
  | .tap code fingers duration merged => [byteOf code, byteOf fingers] ++ le16 duration ++ [byteOf merged]
  | .press code fingers merged => [byteOf code, byteOf fingers, byteOf merged]
  | .release fingers merged => [byteOf fingers, byteOf merged]
  | .relay surface bytes => [enumByte surfaceOrder surface, byteOf bytes.length] ++ bytes
  | .response request code data => [request, enumByte responseOrder code, byteOf data.length] ++ data
  | .alert f =>
    [enumByte faultKindOrder f.kind, enumByte faultSourceOrder f.source] ++ le16 f.detail ++ [flagByte [f.more]]

/-- A record's bytes: the five-byte header and the body (R189). -/
def Record.bytes (r : Record) : List Byte :=
  let body := r.body.bytes
  [byteOf r.body.kindCode, byteOf (5 + body.length), r.sequence] ++ stamp r.timestamp ++ body

end Sys2Proof.Machine
end

