-- ==== Sys2Proof/Machine/LineMapper.lean ====
section
/-! DEFINITION. The line mapper: coverage test, mapping of IMAGE frames and pen profiles, and dead-line substitution
(R30 to R34). -/

namespace Sys2Proof.Machine

/-- The examined drive entries: indices 0 to Cd−1 (R31). -/
def Surface.driveEntries (v : Surface) : List LineEntry := v.lineMap.take v.geometry.driveChannels

/-- The examined sense entries: indices 72 to 72+Cs−1 (R31). -/
def Surface.senseEntries (v : Surface) : List LineEntry := (v.lineMap.drop 72).take v.geometry.senseChannels

/-- How many fitted entries hold a line. -/
def claims (entries : List LineEntry) (line : Nat) : Nat := entries.countP (fun e => e.line == some line)

/-- MAP_CONFLICT on one axis of `n` lines: a line not below the count, a line held twice, or a line unclaimed
(R31). -/
def axisConflict (entries : List LineEntry) (n : Nat) : Bool :=
  entries.any (fun e => match e.line with
    | some l => n ≤ l || 1 < claims entries l
    | none => false)
  || (upTo n).any (fun l => claims entries l == 0)

/-- The dead lines of an axis, ascending (R31). -/
def deadLines (entries : List LineEntry) (n : Nat) : List Nat :=
  (upTo n).filter (fun l => entries.any (fun e => e.line == some l && e.dead))

def Surface.deadDrive (v : Surface) : List Nat := deadLines v.driveEntries v.geometry.driveLines

def Surface.deadSense (v : Surface) : List Nat := deadLines v.senseEntries v.geometry.senseLines

/-- MAP_CONFLICT (R31). -/
def Surface.mapConflict (v : Surface) : Bool :=
  axisConflict v.driveEntries v.geometry.driveLines || axisConflict v.senseEntries v.geometry.senseLines

/-- DEAD_LIMIT: more than four dead lines of one axis (R31). -/
def Surface.deadLimit (v : Surface) : Bool := 4 < v.deadDrive.length || 4 < v.deadSense.length

/-- The channel that serves a line. -/
def channelOf (entries : List LineEntry) (line : Nat) : Option Nat :=
  entries.findIdx? (fun e => e.line == some line)

/-- The value a line takes from its channel; the coverage test gives every line a channel (R31), so the default is
never met out of STOPPED. -/
def onLine (entries : List LineEntry) (values : List Int) (line : Nat) : Int :=
  match channelOf entries line with
  | some i => values.getD i 0
  | none => 0

/-- The mapped raw image (R32). -/
def Surface.mapImage (v : Surface) (samples : List Int) : Image :=
  let rows := piecesOf v.geometry.senseChannels v.geometry.driveChannels samples
  (upTo v.geometry.driveLines).map (fun d =>
    let row := match channelOf v.driveEntries d with
      | some i => rows.getD i []
      | none => []
    (upTo v.geometry.senseLines).map (onLine v.senseEntries row))

/-! ## Dead-line substitution (R33) -/

/-- The rounded average of two values. -/
def average (a b : Int) : Int := rounded (a + b) 2

/-- A neighbour line is usable: within the axis, and live or already set in this pass. -/
def usable (dead done : List Nat) (n line : Nat) : Bool := line < n && (!dead.contains line || done.contains line)

/-- One line of a pass: the average of two usable neighbours, the one, or nothing (`zero`). -/
def substituteLine {α : Type} (avg : α → α → α) (zero : α) (dead done : List Nat) (xs : List α) (line : Nat) : α :=
  let below := if 1 ≤ line && usable dead done xs.length (line - 1) then xs[line - 1]? else none
  let above := if usable dead done xs.length (line + 1) then xs[line + 1]? else none
  match below, above with
  | some a, some b => avg a b
  | some a, none => a
  | none, some b => b
  | none, none => zero

/-- A pass over the dead lines in ascending order, each value taken as its neighbours stand at that moment. -/
def substitutePass {α : Type} (avg : α → α → α) (zero : α) (dead : List Nat) (xs : List α) : List α :=
  (dead.foldl (fun (p : List α × List Nat) line =>
    (p.1.set line (substituteLine avg zero dead p.2 p.1 line), line :: p.2)) (xs, [])).1

/-- The drive pass, then the sense pass (R33). -/
def Surface.substitute (v : Surface) (image : Image) : Image :=
  let zeroRow := List.replicate v.geometry.senseLines (0 : Int)
  let driven := substitutePass (List.zipWith average) zeroRow v.deadDrive image
  driven.map (substitutePass average 0 v.deadSense)

/-- A profile with substitution along its own axis (R34). -/
def profileOf (entries : List LineEntry) (dead : List Nat) (n : Nat) (amplitudes : List Int) : List Int :=
  substitutePass average 0 dead ((upTo n).map (onLine entries amplitudes))

/-- The sense profile of a PEN frame: the first Cs samples (R21, R34). -/
def Surface.senseProfile (v : Surface) (samples : List Int) : List Int :=
  profileOf v.senseEntries v.deadSense v.geometry.senseLines (samples.take v.geometry.senseChannels)

/-- The drive profile of a PEN frame: the Cd samples after them (R21, R34). -/
def Surface.driveProfile (v : Surface) (samples : List Int) : List Int :=
  profileOf v.driveEntries v.deadDrive v.geometry.driveLines (samples.drop v.geometry.senseChannels)

/-- The map as an accepted GEOMETRY, hardware reset and FULL_RESET leave it (R30). -/
def clearedLineMap : List LineEntry := List.replicate 128 .atReset

/-- An image of zeros of the surface's size. -/
def Geometry.zeroImage (g : Geometry) : Image := List.replicate g.driveLines (List.replicate g.senseLines 0)

end Sys2Proof.Machine
end

