-- ==== Sys2Proof/Machine/Flags.lean ====
section
/-! DEFINITION. The queue's counts, the attention line's conditions and the status header's fields (R162, R168,
R173). -/

namespace Sys2Proof.Machine

/-- A general record: any but RESPONSE and ALERT (R162). -/
def Body.isGeneral : Body → Bool
  | .response _ _ _ => false
  | .alert _ => false
  | _ => true

/-- A RESPONSE. -/
def Body.isResponse : Body → Bool
  | .response _ _ _ => true
  | _ => false

/-- An ALERT. -/
def Body.isAlert : Body → Bool
  | .alert _ => true
  | _ => false

/-- The depth (R162). -/
def State.depth (s : State) : Nat := s.queue.length

/-- The general count (R162). -/
def State.generalCount (s : State) : Nat := s.queue.countP (·.body.isGeneral)

/-- The RESPONSE count (R162). -/
def State.responseCount (s : State) : Nat := s.queue.countP (·.body.isResponse)

/-- An ALERT is present (R162). -/
def State.alertPresent (s : State) : Bool := s.queue.any (·.body.isAlert)

/-- What the response budget counts (R172). -/
def State.budget (s : State) : Nat :=
  s.buffer.length + (if s.pendingCapture.isSome then 1 else 0) + s.responseCount

/-- The head record is under delivery (R162). -/
def State.delivering (s : State) : Bool :=
  match s.transaction with
  | some t => t.delivering
  | none => false

/-- The oldest record has reached max_delay (R173). -/
def State.delayReached (s : State) : Bool :=
  match s.queue with
  | r :: _ => s.queueBlock.maxDelay != 0 && s.queueBlock.maxDelay ≤ (s.time - r.placed).toNat
  | [] => false

/-- The conditions under which ATTN is asserted; it is deasserted until start-up completes (R173, R184). -/
def State.attnDue (s : State) : Bool :=
  s.started &&
    (s.queueBlock.attentionThreshold ≤ s.depth || s.responseCount != 0 || s.alertPresent
      || s.packetError || s.requestRefused || s.delayReached)

/-- The almost-full flag of the status header (R168). -/
def State.almostFullFlag (s : State) : Bool := s.queueBlock.almostFull ≤ s.generalCount

/-- The status header as a snapshot (R168, R188). -/
def State.statusHeader (s : State) : List Byte :=
  [byteOf s.depth, byteOf s.responseCount,
    flagByte [s.alertPresent, s.almostFullFlag, s.packetError, s.requestRefused],
    enumByte resetCauseOrder s.resetCause]
    ++ (match s.queue with
        | r :: _ => [byteOf r.body.kindCode, byteOf r.bytes.length]
        | [] => [0, 0])

/-- The byte SYS_SDO carries in the i-th byte period after the code byte; the idle value is FFh (R168, R187). -/
def State.sdo (s : State) (i : Nat) : Byte :=
  match s.transaction with
  | some t => t.out.getD i 0xFF
  | none => 0xFF

/-- What the return lane of a link carries: the relay packet being sent, or nothing while it is idle (R28). -/
def Surface.returnLane (v : Surface) : Option (List Byte) := v.relay.map relayPacket

/-- A clock edge of SYS_SCK. -/
inductive Edge where
  | rising | falling
  deriving DecidableEq, Repr

/-- The edge on which the part samples SYS_SDI, by the LINKPHASE strap (R167). -/
def State.samplingEdge (s : State) : Edge := if s.straps.linkPhase then .falling else .rising

/-- The edge on which the part changes SYS_SDO: the other one (R167). -/
def State.changingEdge (s : State) : Edge := if s.straps.linkPhase then .rising else .falling

/-- Reference cycles per millisecond for a REFSEL code (R184). -/
def cyclesPerMillisecond (refsel : BitVec 3) : Nat :=
  match refsel.toNat with
  | 0 => 12000
  | 1 => 19200
  | 2 => 24000
  | 3 => 26000
  | 4 => 38400
  | 5 => 24000
  | 6 => 19200
  | _ => 38400

end Sys2Proof.Machine
end

