-- ==== Sys2Proof/Machine/Operands.lean ====
section
/-! DEFINITION. The operand forms of requests: the checks of R175, the parameter blocks and table entries as they
are laid out, judged and returned (R177, R178, R190). -/

namespace Sys2Proof.Machine

/-! ## Request operands (R175, R188) -/

/-- The code names a request: DESCRIBE 1 to FULL_RESET 15. -/
def Request.known (r : Request) : Bool := 1 ≤ r.code.toNat && r.code.toNat ≤ 15

/-- Check 2 of R175: the payload length fits the operands; for LOAD_TABLE and SET_PARAMS, that it holds the operands
that precede the entries or the block. RELAY carries a surface and 1 to 64 bytes (R28). -/
def Request.lengthFits (r : Request) : Bool :=
  let n := r.payload.length
  match r.code.toNat with
  | 1 => n == 0
  | 2 => n == 1
  | 3 => n == 1
  | 4 => n == 1
  | 5 => 3 ≤ n
  | 6 => n == 4
  | 7 => 2 ≤ n
  | 8 => n == 2
  | 9 => n == 1
  | 10 => n == 1
  | 11 => n == 2
  | 12 => n == 3
  | 13 => 2 ≤ n && n ≤ 65
  | 14 => n == 0
  | 15 => n == 0
  | _ => true

/-- The block a SET_PARAMS or READ_PARAMS names; none when the code is unknown. -/
def Request.block (r : Request) : Option BlockId := valueIn blockOrder (byteAt r.payload 0)

/-- The table a LOAD_TABLE or READ_TABLE names; none when the code is unknown. -/
def Request.table (r : Request) : Option TableId := valueIn tableOrder (byteAt r.payload 0)

/-- The surface operand's byte; none for a request that names no surface, SET_PARAMS and READ_PARAMS of QUEUE among
them (R175). -/
def Request.surfaceByte (r : Request) : Option Nat :=
  match r.code.toNat with
  | 2 => some (byteAt r.payload 0)
  | 3 => some (byteAt r.payload 0)
  | 4 => some (byteAt r.payload 0)
  | 5 => some (byteAt r.payload 1)
  | 6 => some (byteAt r.payload 1)
  | 7 => if r.block == some .queue then none else some (byteAt r.payload 1)
  | 8 => if r.block == some .queue then none else some (byteAt r.payload 1)
  | 11 => some (byteAt r.payload 0)
  | 13 => some (byteAt r.payload 0)
  | _ => none

/-- The surface a request names, once its checks have passed. -/
def Request.surface (r : Request) : SurfaceId := if r.surfaceByte == some 1 then .panel else .pad

/-- A surface has the block: PAD has no PEN (R142, R177). -/
def hasBlock : BlockId → SurfaceId → Bool
  | .pen, .pad => false
  | _, _ => true

/-- A surface has the table: PANEL has no GESTURE, PAD no PRESSURE_CURVE (R178). -/
def hasTable : TableId → SurfaceId → Bool
  | .gesture, .panel => false
  | .pressureCurve, .pad => false
  | _, _ => true

/-- The byte length of a block for its surface (R190). -/
def blockLength : BlockId → SurfaceId → Nat
  | .geometry, _ => 6
  | .detection, _ => 17
  | .reporting, _ => 8
  | .rejection, .pad => 5
  | .rejection, .panel => 13
  | .pen, _ => 3
  | .queue, _ => 5

/-- The bytes of one entry of a table (R190). -/
def entrySize : TableId → Nat
  | .lineMap => 2
  | .classTable => 23
  | .zone => 14
  | .gesture => 12
  | .pressureCurve => 2

/-- The places of a table (R30, R69, R75, R146, R138). -/
def tableSize : TableId → Nat
  | .lineMap => 128
  | .classTable => 16
  | .zone => 8
  | .gesture => 16
  | .pressureCurve => 9

/-- The block bytes of a SET_PARAMS. -/
def Request.blockBytes (r : Request) : List Byte := r.payload.drop 2

/-- The entry bytes of a LOAD_TABLE. -/
def Request.entryBytes (r : Request) : List Byte := r.payload.drop 3

/-- The BAD_TABLE test of R177 and R178 and the length of the block or entry bytes, which R175 puts after its
checks 3 and 4. -/
def Request.contentCheck (r : Request) : Option ResponseCode :=
  if r.code.toNat == 5 then
    match r.table with
    | none => some .badTable
    | some t =>
      if !hasTable t r.surface then some .badTable
      else if r.entryBytes.length == 0 || r.entryBytes.length % entrySize t != 0 then some .badLength
      else none
  else if r.code.toNat == 7 then
    match r.block with
    | none => some .badTable
    | some b =>
      if !hasBlock b r.surface then some .badTable
      else if r.blockBytes.length != blockLength b r.surface then some .badLength
      else none
  else none

/-- The checks R175 makes when a request reaches the head, in their order; none when all pass. -/
def requestCheck (panelPresent : Bool) (r : Request) : Option ResponseCode :=
  if !r.known then some .unknownRequest
  else if !r.lengthFits then some .badLength
  else match r.surfaceByte with
    | none => r.contentCheck
    | some b =>
      if 1 < b then some .badValue
      else if b == 1 && !panelPresent then some .noSurface
      else r.contentCheck

/-! ## Parameter blocks: as sent, judged by R177, and as returned -/

/-- In range. -/
def within (lo hi v : Nat) : Bool := lo ≤ v && v ≤ hi

/-- GEOMETRY: counts outside their ranges and unknown enumerations are refused (none). -/
def Geometry.ofBytes (p : List Byte) : Option Geometry := do
  let polarity ← valueIn polarityOrder (byteAt p 4)
  let format ← valueIn sampleFormatOrder (byteAt p 5)
  if within 1 72 (byteAt p 0) && within 1 56 (byteAt p 1) && within 4 64 (byteAt p 2) && within 4 48 (byteAt p 3) then
    some { driveChannels := byteAt p 0, senseChannels := byteAt p 1, driveLines := byteAt p 2,
           senseLines := byteAt p 3, polarity := polarity, format := format }
  else none

def Geometry.bytes (g : Geometry) : List Byte :=
  [byteOf g.driveChannels, byteOf g.senseChannels, byteOf g.driveLines, byteOf g.senseLines,
    enumByte polarityOrder g.polarity, enumByte sampleFormatOrder g.format]

/-- DETECTION as sent. -/
def Detection.ofBytes (p : List Byte) : Detection :=
  { touchThreshold := word16At p 0, noiseFloor := word16At p 2, acquireFrames := byteAt p 4,
    driftInterval := byteAt p 5, driftStep := byteAt p 6, negativeThreshold := word16At p 7,
    anomalyFrames := byteAt p 9, contactLimit := byteAt p 10, confirmFrames := byteAt p 11,
    coastFrames := byteAt p 12, trackGate := word16At p 13, frameTimeout := word16At p 15 }

/-- DETECTION with each scalar brought into its range (R177). -/
def Detection.clamped (d : Detection) : Detection :=
  { touchThreshold := clampNat 1 4095 d.touchThreshold, noiseFloor := clampNat 0 4094 d.noiseFloor,
    acquireFrames := clampNat 1 64 d.acquireFrames, driftInterval := clampNat 1 127 d.driftInterval,
    driftStep := clampNat 1 255 d.driftStep, negativeThreshold := clampNat 1 4095 d.negativeThreshold,
    anomalyFrames := clampNat 1 255 d.anomalyFrames, contactLimit := clampNat 1 16 d.contactLimit,
    confirmFrames := clampNat 1 8 d.confirmFrames, coastFrames := clampNat 0 8 d.coastFrames,
    trackGate := clampNat 16 4095 d.trackGate, frameTimeout := clampNat 10 1000 d.frameTimeout }

def Detection.bytes (d : Detection) : List Byte :=
  le16 d.touchThreshold ++ le16 d.noiseFloor ++ [byteOf d.acquireFrames, byteOf d.driftInterval, byteOf d.driftStep]
    ++ le16 d.negativeThreshold
    ++ [byteOf d.anomalyFrames, byteOf d.contactLimit, byteOf d.confirmFrames, byteOf d.coastFrames]
    ++ le16 d.trackGate ++ le16 d.frameTimeout

/-- The report modes a surface may hold: PANEL's is CONTACTS (R177). -/
def modeAllowed : SurfaceId → ReportMode → Bool
  | .pad, _ => true
  | .panel, .contacts => true
  | .panel, _ => false

/-- REPORTING as sent; an unknown or disallowed report mode is refused (none). -/
def Reporting.ofBytes (surface : SurfaceId) (p : List Byte) : Option Reporting := do
  let mode ← valueIn reportModeOrder (byteAt p 6)
  let orientation := p.getD 4 0
  if modeAllowed surface mode then
    some { lx := word16At p 0, ly := word16At p 2, swap := orientation.getLsbD 0, invertX := orientation.getLsbD 1,
           invertY := orientation.getLsbD 2, mask := (p.getD 5 0).extractLsb' 0 5, mode := mode,
           settleFrames := byteAt p 7 }
  else none

/-- REPORTING clamped; PANEL's settle_frames is written as sent, since PANEL ignores it (R190; DEDUCED,
notes/assumptions/9.md). -/
def Reporting.clamped (surface : SurfaceId) (r : Reporting) : Reporting :=
  { r with lx := clampNat 255 32767 r.lx, ly := clampNat 255 32767 r.ly,
           settleFrames := if surface == .pad then clampNat 1 8 r.settleFrames else r.settleFrames }

def Reporting.bytes (r : Reporting) : List Byte :=
  le16 r.lx ++ le16 r.ly ++ [flagByte [r.swap, r.invertX, r.invertY], r.mask.setWidth 8,
    enumByte reportModeOrder r.mode, byteOf r.settleFrames]

/-- PAD's REJECTION as sent. -/
def PadRejection.ofBytes (p : List Byte) : PadRejection :=
  { guardTime := word16At p 0, hesitantTravel := word16At p 2, hesitantFrames := byteAt p 4 }

/-- PAD's REJECTION clamped (R122). -/
def PadRejection.clamped (r : PadRejection) : PadRejection :=
  { guardTime := clampNat 0 2000 r.guardTime, hesitantTravel := clampNat 0 4095 r.hesitantTravel,
    hesitantFrames := clampNat 1 255 r.hesitantFrames }

def PadRejection.bytes (r : PadRejection) : List Byte :=
  le16 r.guardTime ++ le16 r.hesitantTravel ++ [byteOf r.hesitantFrames]

/-- PANEL's REJECTION as sent; an unknown pen mode or handedness is refused (none) (R122). -/
def PanelRejection.ofBytes (p : List Byte) : Option PanelRejection := do
  let penMode ← valueIn penModeOrder (byteAt p 0)
  let handedness ← valueIn handednessOrder (byteAt p 1)
  some { penMode := penMode, handedness := handedness, ahead := word16At p 2, back := word16At p 4,
         above := word16At p 6, below := word16At p 8, linger := word16At p 10, shadowRadius := byteAt p 12 }

/-- PANEL's REJECTION clamped (R122). -/
def PanelRejection.clamped (r : PanelRejection) : PanelRejection :=
  { r with ahead := clampNat 0 4095 r.ahead, back := clampNat 0 4095 r.back, above := clampNat 0 4095 r.above,
           below := clampNat 0 4095 r.below, linger := clampNat 0 2000 r.linger,
           shadowRadius := clampNat 0 255 r.shadowRadius }

def PanelRejection.bytes (r : PanelRejection) : List Byte :=
  [enumByte penModeOrder r.penMode, enumByte handednessOrder r.handedness] ++ le16 r.ahead ++ le16 r.back
    ++ le16 r.above ++ le16 r.below ++ le16 r.linger ++ [byteOf r.shadowRadius]

/-- PEN as sent. -/
def PenBlock.ofBytes (p : List Byte) : PenBlock := { hoverThreshold := word16At p 0, penHold := byteAt p 2 }

/-- PEN clamped (R142). -/
def PenBlock.clamped (b : PenBlock) : PenBlock :=
  { hoverThreshold := clampNat 1 4095 b.hoverThreshold, penHold := clampNat 0 15 b.penHold }

def PenBlock.bytes (b : PenBlock) : List Byte := le16 b.hoverThreshold ++ [byteOf b.penHold]

/-- QUEUE as sent; mask bits that name no fault kind are written as clear (R177). -/
def QueueBlock.ofBytes (p : List Byte) : QueueBlock :=
  { attentionThreshold := byteAt p 0, almostFull := byteAt p 1, maxDelay := byteAt p 2,
    captureMask := BitVec.ofNat 12 (word16At p 3) }

/-- QUEUE clamped (R177). -/
def QueueBlock.clamped (b : QueueBlock) : QueueBlock :=
  { b with attentionThreshold := clampNat 1 59 b.attentionThreshold, almostFull := clampNat 8 59 b.almostFull,
           maxDelay := clampNat 0 255 b.maxDelay }

def QueueBlock.bytes (b : QueueBlock) : List Byte :=
  [byteOf b.attentionThreshold, byteOf b.almostFull, byteOf b.maxDelay] ++ le16 b.captureMask.toNat

/-! ## Table entries (R190) -/

/-- A used or capture byte: 0 or 1, anything else is refused. -/
def usedByte (n : Nat) : Option Bool := if n == 0 then some false else if n == 1 then some true else none

/-- A line map entry: 255 is NOT_FITTED, bit 0 of the flags is dead (R30). -/
def LineEntry.ofBytes (p : List Byte) : LineEntry :=
  { line := if byteAt p 0 == 255 then none else some (byteAt p 0), dead := (p.getD 1 0).getLsbD 0 }

def LineEntry.bytes (e : LineEntry) : List Byte := [byteOf (e.line.getD 255), flagByte [e.dead]]

/-- A class entry; crossed bounds, an unknown edge condition and a result class outside R69 are refused (R70). -/
def ClassEntry.ofBytes (p : List Byte) : Option ClassEntry := do
  let used ← usedByte (byteAt p 0)
  let edgeCond ← valueIn edgeOrder (byteAt p 21)
  let result ← valueIn touchOrder (byteAt p 22)
  let e : ClassEntry :=
    { used := used, areaMin := word16At p 1, areaMax := word16At p 3, peakMin := word16At p 5,
      peakMax := word16At p 7, widthMin := word16At p 9, widthMax := word16At p 11, heightMin := word16At p 13,
      heightMax := word16At p 15, densityMin := word16At p 17, densityMax := word16At p 19, edge := edgeCond,
      result := result }
  if e.areaMin ≤ e.areaMax ∧ e.peakMin ≤ e.peakMax ∧ e.widthMin ≤ e.widthMax ∧ e.heightMin ≤ e.heightMax
      ∧ e.densityMin ≤ e.densityMax ∧ result ≠ .unknown then some e else none

def ClassEntry.bytes (e : ClassEntry) : List Byte :=
  [flagByte [e.used]] ++ le16 e.areaMin ++ le16 e.areaMax ++ le16 e.peakMin ++ le16 e.peakMax ++ le16 e.widthMin
    ++ le16 e.widthMax ++ le16 e.heightMin ++ le16 e.heightMax ++ le16 e.densityMin ++ le16 e.densityMax
    ++ [enumByte edgeOrder e.edge, enumByte touchOrder e.result]

/-- A zone entry; crossed corners and unknown policies are refused (R76). -/
def ZoneEntry.ofBytes (p : List Byte) : Option ZoneEntry := do
  let used ← usedByte (byteAt p 0)
  let laptop ← valueIn zonePolicyOrder (byteAt p 9)
  let stand ← valueIn zonePolicyOrder (byteAt p 10)
  let tent ← valueIn zonePolicyOrder (byteAt p 11)
  let tablet ← valueIn zonePolicyOrder (byteAt p 12)
  let closed ← valueIn zonePolicyOrder (byteAt p 13)
  let e : ZoneEntry :=
    { used := used, x0 := word16At p 1, y0 := word16At p 3, x1 := word16At p 5, y1 := word16At p 7,
      laptop := laptop, stand := stand, tent := tent, tablet := tablet, closed := closed }
  if e.x0 ≤ e.x1 ∧ e.y0 ≤ e.y1 then some e else none

def ZoneEntry.bytes (e : ZoneEntry) : List Byte :=
  [flagByte [e.used]] ++ le16 e.x0 ++ le16 e.y0 ++ le16 e.x1 ++ le16 e.y1
    ++ [e.laptop, e.stand, e.tent, e.tablet, e.closed].map (enumByte zonePolicyOrder)

/-- The directions R146 allows a kind. -/
def directionAllowed : GestureKind → Direction → Bool
  | .drag, d => [Direction.any, .up, .down, .left, .right].contains d
  | .pinch, d => [Direction.inward, .outward, .either].contains d
  | .tap, d => d == .any
  | .press, d => d == .any

/-- A gesture entry; the refusals of R147. -/
def GestureEntry.ofBytes (p : List Byte) : Option GestureEntry := do
  let used ← usedByte (byteAt p 0)
  let kind ← valueIn gestureKindOrder (byteAt p 1)
  let direction ← valueIn directionOrder (byteAt p 3)
  let capture ← usedByte (byteAt p 10)
  if within 1 5 (byteAt p 2) && directionAllowed kind direction && within 1 250 (byteAt p 11) then
    some { used := used, kind := kind, fingers := byteAt p 2, direction := direction, threshold := word16At p 4,
           limit := word16At p 6, maxTime := word16At p 8, capture := capture, code := byteAt p 11 }
  else none

def GestureEntry.bytes (e : GestureEntry) : List Byte :=
  [flagByte [e.used], enumByte gestureKindOrder e.kind, byteOf e.fingers, enumByte directionOrder e.direction]
    ++ le16 e.threshold ++ le16 e.limit ++ le16 e.maxTime ++ [flagByte [e.capture], byteOf e.code]

/-- The entries of a LOAD_TABLE, each piece of the entry's size. -/
def Request.entries (r : Request) (t : TableId) : List (List Byte) :=
  piecesOf (entrySize t) r.entryBytes.length r.entryBytes

/-- The curve that would result is refused when two adjacent points whose marks would both be set decrease
(R138, step 3). -/
def curveDecreases : List CurvePoint → Bool
  | a :: b :: rest => (a.loaded && b.loaded && b.value < a.value) || curveDecreases (b :: rest)
  | _ => false

end Sys2Proof.Machine
end

