-- ==== Sys2Proof/Machine/Ops.lean ====
section
/-! DEFINITION. The shared operations: the named updates of State, faults and their capture, the report queue's
placement, responses, and the taking of frames from their pending slots. -/

namespace Sys2Proof.Machine

/-! ## Named updates -/

/-- A surface's context. -/
def State.surface (s : State) : SurfaceId → Surface
  | .pad => s.pad
  | .panel => s.panel

/-- Replace a surface's context. -/
def State.withSurface (s : State) (i : SurfaceId) (v : Surface) : State :=
  match i with
  | .pad => { s with pad := v }
  | .panel => { s with panel := v }

/-- Replace the contact table. -/
def State.withSlots (s : State) (slots : List Slot) : State := { s with slots := slots }

/-- Replace the gesture engine's state. -/
def State.withGesture (s : State) (g : Gesture) : State := { s with gesture := g }

/-- Replace the pen record. -/
def State.withPen (s : State) (p : PenRecord) : State := { s with pen := p }

/-- Replace the linger state. -/
def State.withLinger (s : State) (l : Option Linger) : State := { s with linger := l }

/-- Replace the fault record. -/
def State.withFault (s : State) (f : Option FaultRecord) : State := { s with fault := f }

/-- Replace the request buffer. -/
def State.withBuffer (s : State) (b : List Request) : State := { s with buffer := b }

/-- The request at the head leaves the buffer; the next one becomes the head and has not waited yet (R175). -/
def State.popHead (s : State) : State := { s with buffer := s.buffer.tail, headWaited := false }

/-- Replace the pending capture. -/
def State.withPendingCapture (s : State) (c : Option PendingCapture) : State := { s with pendingCapture := c }

/-- Replace the capture buffer's content. -/
def State.withCaptureBuffer (s : State) (c : Option CaptureBuffer) : State := { s with captureBuffer := c }

/-- Replace the transaction in progress. -/
def State.withTransaction (s : State) (t : Option Transaction) : State := { s with transaction := t }

/-- One more free value has been read. -/
def State.withFreeRead (s : State) : State := { s with free := s.free + 1 }

/-- The ATTN pin follows its conditions (R173). -/
def State.refreshAttn (s : State) : State := { s with attn := s.attnDue }

/-- Replace the report queue; the ATTN pin follows (R173). -/
def State.withQueue (s : State) (q : List Record) : State := State.refreshAttn { s with queue := q }

/-- Set or clear the sticky flags; the ATTN pin follows (R170, R173). -/
def State.withSticky (s : State) (packetError requestRefused : Bool) : State :=
  State.refreshAttn { s with packetError := packetError, requestRefused := requestRefused }

/-- A surface is present: PAD always, PANEL by the PANEL_EN strap (R1). -/
def State.present (s : State) : SurfaceId → Bool
  | .pad => true
  | .panel => s.straps.panelEn

/-- The posture mask holds a posture (R16). -/
def Reporting.holds (r : Reporting) (p : Posture) : Bool := r.mask.getLsbD (codeIn postureOrder p)

/-- The report mode includes gestures. -/
def Reporting.hasGestures (r : Reporting) : Bool := r.mode != .contacts

/-- The report mode includes contacts (R101). -/
def Reporting.hasContacts (r : Reporting) : Bool := r.mode != .gestures

/-- Change one link's counters. -/
def State.countLink (s : State) (i : SurfaceId) (f : LinkCounters → LinkCounters) : State :=
  s.withSurface i { s.surface i with counters := f (s.surface i).counters }

/-! ## Faults (R181) and the records of the part's own making -/

/-- A record goes to the tail with its placement time (R162, R163). -/
def State.append (s : State) (sequence : Byte) (timestamp : BitVec 16) (body : Body) : State :=
  s.withQueue (s.queue ++ [{ sequence := sequence, timestamp := timestamp, placed := s.time, body := body }])

/-- An ALERT is appended only when none is present (R166, R181). -/
def State.requestAlert (s : State) (f : FaultRecord) : State :=
  if s.alertPresent then s else s.append f.sequence f.timestamp (.alert f)

/-- A fault is raised: captured when its kind is in the mask and the record is empty, otherwise marked by the more
flag (R181). -/
def State.raiseFault (s : State) (kind : FaultKind) (source : FaultSource) (sequence : Byte) (detail : Nat) : State :=
  if s.queueBlock.captureMask.getLsbD (codeIn faultKindOrder kind) then
    match s.fault with
    | none =>
      let f : FaultRecord := { kind := kind, source := source, sequence := sequence, detail := detail,
                               timestamp := low16 s.time, more := false }
      (s.withFault (some f)).requestAlert f
    | some f => s.withFault (some { f with more := true })
  else s

/-- A RESPONSE is always appended (R166, R189). -/
def State.respond (s : State) (tag code : Byte) (rc : ResponseCode) (data : List Byte) : State :=
  s.append tag (low16 s.time) (.response code rc data)

/-! ## Placing general records (R163 to R165) -/

/-- The queue's answer to an offer (R163). -/
inductive Placement where
  | appended | merged | deferred | dropped
  deriving DecidableEq, Repr

/-- The record was placed: appended or merged. -/
def Placement.placed : Placement → Bool
  | .appended => true
  | .merged => true
  | _ => false

/-- One pair of entries of R164's table; none is "merge not allowed". -/
def mergeEntry (target new : FrameEntry) : Option FrameEntry :=
  match target.state, new.state with
  | .down, .move => some { new with state := .down }
  | .move, .move => some new
  | .move, .up => some new
  | .move, .cancel => some new
  | _, _ => none

/-- One new entry into the target's: paired by contact ID, or added (R164). -/
def mergeInto (entries : List FrameEntry) (new : FrameEntry) : Option (List FrameEntry) :=
  match entries.findIdx? (fun e => e.contact == new.contact) with
  | none => some (entries ++ [new])
  | some i =>
    match entries[i]? with
    | none => none
    | some target => (mergeEntry target new).map (fun e => entries.set i e)

/-- The merge of a FRAME_REPORT into its target (R164). -/
def mergeFrameReport (target new : FrameReport) : Option FrameReport :=
  if target.switchClosed != new.switchClosed then none
  else match new.entries.foldlM mergeInto target.entries with
    | none => none
    | some entries =>
      if 16 < entries.length then none
      else some { surface := new.surface, switchClosed := new.switchClosed,
                  merged := min 255 (target.merged + new.merged), entries := entries }

/-- The merge of a PEN_REPORT: same state and buttons (R165). -/
def mergePenReport (target new : PenReport) : Option PenReport :=
  if target.state == new.state && target.tip == new.tip && target.barrel == new.barrel
      && target.eraser == new.eraser && target.batteryLow == new.batteryLow then
    some { new with merged := min 255 (target.merged + new.merged) }
  else none

/-- The merge of an UPDATE: same gesture number (R165). -/
def mergeUpdate (target new : GestureUpdate) : Option GestureUpdate :=
  if target.number == new.number then
    some { number := new.number, dx := clamp16 (target.dx + new.dx), dy := clamp16 (target.dy + new.dy),
           dspread := clamp16 (target.dspread + new.dspread), fingers := new.fingers,
           merged := min 255 (target.merged + new.merged) }
  else none

/-- A record is a possible merge target of a body: the same kind, and for frame reports the same surface. -/
def Body.targets (new : Body) (r : Record) : Bool :=
  match new, r.body with
  | .frameReport n, .frameReport t => n.surface == t.surface
  | .penReport _, .penReport _ => true
  | .gestureUpdate _, .gestureUpdate _ => true
  | _, _ => false

/-- The merged body, if the pair may merge. -/
def Body.mergeWith (new target : Body) : Option Body :=
  match new, target with
  | .frameReport n, .frameReport t => (mergeFrameReport t n).map .frameReport
  | .penReport n, .penReport t => (mergePenReport t n).map .penReport
  | .gestureUpdate n, .gestureUpdate t => (mergeUpdate t n).map .gestureUpdate
  | _, _ => none

/-- The queue with a body merged into its newest target, which must be unread (R164, R165). The target keeps its
place and placement time and takes the new sequence and timestamp. -/
def State.mergedQueue (s : State) (sequence : Byte) (timestamp : BitVec 16) (body : Body) : Option (List Record) :=
  match lastWhere body.targets s.queue with
  | none => none
  | some i =>
    if i == 0 && s.delivering then none
    else match s.queue[i]? with
      | none => none
      | some target =>
        (body.mergeWith target.body).map (fun b =>
          s.queue.set i { target with sequence := sequence, timestamp := timestamp, body := b })

/-- Records that are deferred for want of room: FRAME_REPORT and END; the others are dropped (R163). -/
def Body.defers : Body → Bool
  | .frameReport _ => true
  | .gestureEnd _ _ _ => true
  | _ => false

/-- A general record is offered to the queue, and the queue answers (R163). -/
def State.offer (s : State) (sequence : Byte) (timestamp : BitVec 16) (body : Body) : Placement × State :=
  if s.generalCount < s.queueBlock.almostFull then (.appended, s.append sequence timestamp body)
  else match s.mergedQueue sequence timestamp body with
    | some q => (.merged, { s.withQueue q with mergedCount := bump s.mergedCount 1 })
    | none =>
      if s.generalCount < 59 then (.appended, s.append sequence timestamp body)
      else if body.defers then (.deferred, { s with deferredCount := bump s.deferredCount 1 })
      else (.dropped,
        { s with droppedCount := bump s.droppedCount 1 }.raiseFault .queueDrop .queue sequence body.kindCode)

/-! ## Frames taken from their pending slots (R25) -/

/-- The frames that a request at the head may have to wait for: a REBASE the IMAGE frame of its surface, a write of a
deferrable block both kinds (R10, R25, R176). A request that fails its checks waits for nothing (R175). The flag says
that the PEN kind is meant too. -/
def State.headClaim (s : State) : Option (SurfaceId × Bool) :=
  match s.buffer with
  | [] => none
  | r :: _ =>
    if (requestCheck s.straps.panelEn r).isSome then none
    else match r.code.toNat with
      | 4 => some (r.surface, false)
      | 5 => if r.table == some .lineMap then none else some (r.surface, true)
      | 7 =>
        match r.block with
        | some .reporting => some (r.surface, true)
        | some .rejection => some (r.surface, true)
        | some .pen => some (r.surface, true)
        | _ => none
      | _ => none

/-- The head request has a frame in flight to wait for (R10, R176). -/
def State.headWaits (s : State) : Bool :=
  match s.headClaim with
  | some (i, both) => (s.surface i).imageFlight.isSome || (both && (s.surface i).penFlight.isSome)
  | none => false

/-- What the head request holds: it holds its kinds while it waits for a frame in flight, and once it has waited until
it is executed, so that no further frame is taken before it (R25, R176; notes/assumptions/8.md). -/
def State.headHold (s : State) : Option (SurfaceId × Bool) :=
  if s.headWaited || s.headWaits then s.headClaim else none

/-- A frame in flight is about to complete or to be abandoned: a request that waits for it has waited (R25, R176). -/
def State.noteWait (s : State) : State := { s with headWaited := s.headWaited || s.headWaits }

/-- The head request holds the IMAGE frames of a surface. -/
def State.holdsImage (s : State) (i : SurfaceId) : Bool :=
  match s.headHold with
  | some (j, _) => i == j
  | none => false

/-- The head request holds the PEN frames of a surface. -/
def State.holdsPen (s : State) (i : SurfaceId) : Bool :=
  match s.headHold with
  | some (j, both) => i == j && both
  | none => false

/-- A waiting IMAGE frame is put in flight when none is in flight, unless the kind is held (R25). -/
def State.takeImageUnless (s : State) (held : Bool) (i : SurfaceId) : State :=
  let v := s.surface i
  match v.imageSlot with
  | some f =>
    if v.imageFlight.isNone && !held then
      s.withSurface i { v with imageSlot := none, imageFlight := some { frame := f, progress := .taken } }
    else s
  | none => s

/-- A waiting PEN frame is put in flight when none is in flight, unless the kind is held (R25). -/
def State.takePenUnless (s : State) (held : Bool) (i : SurfaceId) : State :=
  let v := s.surface i
  match v.penSlot with
  | some f =>
    if v.penFlight.isNone && !held then
      s.withSurface i { v with penSlot := none, penFlight := some f }
    else s
  | none => s

/-- A waiting IMAGE frame is put in flight when none is in flight and none is held (R25). -/
def State.takeImage (s : State) (i : SurfaceId) : State := s.takeImageUnless (s.holdsImage i) i

/-- A waiting PEN frame is put in flight when none is in flight and none is held (R25). -/
def State.takePen (s : State) (i : SurfaceId) : State := s.takePenUnless (s.holdsPen i) i

/-- Both kinds of both surfaces, as when a waiting request has been executed: the four are taken together, each by
what is held before any of them (R25; notes/assumptions/8.md). -/
def State.takeFrames (s : State) : State :=
  (((s.takeImageUnless (s.holdsImage .pad) .pad).takePenUnless (s.holdsPen .pad) .pad).takeImageUnless
    (s.holdsImage .panel) .panel).takePenUnless (s.holdsPen .panel) .panel

/-! ## Answering the request at the head (R175) -/

/-- The head request's RESPONSE is placed and the request leaves the buffer; a frame it held may be taken. -/
def State.answer (s : State) (r : Request) (rc : ResponseCode) (data : List Byte) : State :=
  (s.popHead.respond r.tag r.code rc data).takeFrames

end Sys2Proof.Machine
end

