-- ==== Sys2Proof/Config.lean ====
section
/-! DEFINITION. The free values: what the spec leaves open and the part decides. None has a body the logic can
see, so a statement about one holds for every value. Each is applied to the counter `State.free`, which the
command that reads it advances, so two readings are not tied together. -/

namespace Sys2Proof

/-- A number the spec does not state; the second argument tells several numbers of one command apart. -/
opaque Config.freeNat : Nat → Nat → Nat

/-- A byte the spec does not state. -/
opaque Config.freeByte : Nat → Byte

/-- A mark or an order the spec leaves open. -/
opaque Config.freeFlag : Nat → Bool

end Sys2Proof
end

