-- ==== Sys2Proof/Machine/Tracker.lean ====
section
/-! DEFINITION. The contact tracker: prediction, pairing, updates, admission, closings, entries, logical scaling and
frame reports (R84 to R107). -/

namespace Sys2Proof.Machine

/-- The width of a surface in sensor units (Conventions). -/
def Geometry.wx (g : Geometry) : Int := 64 * g.senseLines

/-- The height of a surface in sensor units (Conventions). -/
def Geometry.wy (g : Geometry) : Int := 64 * g.driveLines

/-- TENTATIVE, ACTIVE, HELD or SUPPRESSED: tracked, hence a candidate for pairing (R87) and a freeze of drift
(R44). -/
def SlotState.tracked : SlotState → Bool
  | .tentative => true
  | .active => true
  | .held => true
  | .suppressed => true
  | .free => false
  | .ending => false

/-- The slot is a slot of the surface: it is not FREE (R84). -/
def Slot.ofSurface (i : SurfaceId) (k : Slot) : Bool := k.state != .free && k.surface == i

/-- A candidate of R87. -/
def Slot.candidate (i : SurfaceId) (k : Slot) : Bool := k.surface == i && k.state.tracked

/-- PALM, GRIP and LARGE set the suppressing mark (R90). -/
def TouchClass.suppressing : TouchClass → Bool
  | .palm => true
  | .grip => true
  | .large => true
  | .finger => false
  | .thumb => false
  | .unknown => false

/-! ## Prediction and pairing (R87, R88) -/

/-- A prediction on one axis of extent `w`: with more than 8 frames elapsed, the position itself. -/
def predict (n : Nat) (p vel w : Int) : Int := if n ≤ 8 then clampInt 0 (w - 1) (p + vel * n) else p

/-- With more than 8 frames elapsed the velocity of every candidate is set to 0 (R87). -/
def Slot.stopAfterGap (i : SurfaceId) (n : Nat) (k : Slot) : Slot :=
  if k.candidate i && 8 < n then { k with vx := 0, vy := 0 } else k

/-- An eligible pair: distance, slot index, region index. -/
structure Pair where
  dist : Nat
  slot : Nat
  region : Nat
  deriving DecidableEq, Repr

/-- The eligible pairs of a frame (R88). -/
def eligiblePairs (i : SurfaceId) (g : Geometry) (gate n : Nat) (slots : List Slot) (regions : List Region) :
    List Pair :=
  (slots.zipIdx).flatMap (fun (k, a) =>
    if k.candidate i then
      let px := predict n k.x k.vx g.wx
      let py := predict n k.y k.vy g.wy
      (regions.zipIdx).filterMap (fun (r, b) =>
        let d := distance px py r.x r.y
        if d ≤ gate then some { dist := d, slot := a, region := b } else none)
    else [])

/-- The order in which pairs are taken: smaller distance, then lower slot index, then lower region index (R88). -/
def Pair.before (p q : Pair) : Bool :=
  p.dist < q.dist || (p.dist == q.dist && (p.slot < q.slot || (p.slot == q.slot && p.region < q.region)))

/-- The first pair in that order. -/
def firstPair : List Pair → Option Pair
  | [] => none
  | p :: ps =>
    match firstPair ps with
    | none => some p
    | some q => if q.before p then some q else some p

/-- Pairing: take the first pair, remove those that share its slot or region, until none is left (R88). The first
argument bounds the rounds. -/
def takePairs : Nat → List Pair → List Pair
  | 0, _ => []
  | fuel + 1, pairs =>
    match firstPair pairs with
    | none => []
    | some p => p :: takePairs fuel (pairs.filter (fun q => q.slot != p.slot && q.region != p.region))

/-- The pairs of a frame (R88). -/
def pairing (i : SurfaceId) (g : Geometry) (gate n : Nat) (slots : List Slot) (regions : List Region) : List Pair :=
  let pairs := eligiblePairs i g gate n slots regions
  takePairs pairs.length pairs

/-! ## Updates (R89 to R92) -/

/-- The matched update (R89, R90). -/
def Slot.matched (n : Nat) (r : Region) (k : Slot) : Slot :=
  { k with
    state := if k.state == .held then .active else k.state
    vx := (r.x - k.x).tdiv n
    vy := (r.y - k.y).tdiv n
    x := r.x
    y := r.y
    area := r.area
    peak := r.peak
    touch := r.touch
    mark := k.mark || r.touch.suppressing
    age := bump k.age 1
    missing := 0 }

/-- A closing with the slot's snapshot (R85). -/
def Slot.snapshot (kind : ClosingKind) (k : Slot) : Closing :=
  { kind := kind, x := k.x, y := k.y, touch := k.touch, area := k.area, peak := k.peak, held := k.state == .held }

/-- A closing is set, unless the slot already holds one (R85). -/
def Slot.setClosing (kind : ClosingKind) (k : Slot) : Slot :=
  { k with closing := some (k.closing.getD (k.snapshot kind)) }

/-- The slot becomes ENDING; its suppression reason is present only in SUPPRESSED (R84). -/
def Slot.toEnding (k : Slot) : Slot := { k with state := .ending, reason := none }

/-- The end of a coasting slot (R91). -/
def Slot.endCoast (k : Slot) : Slot :=
  if k.closing.isSome then k.toEnding
  else if k.announced && !k.closed then (k.setClosing (if k.mark then .cancel else .up)).toEnding
  else .cleared

/-- The unmatched update (R91, R92). -/
def Slot.unmatched (coast : Nat) (k : Slot) : Slot :=
  match k.state with
  | .tentative => .cleared
  | .active =>
    let k' := { k with state := .held, missing := 1 }
    if coast < k'.missing then k'.endCoast else k'
  | .held =>
    let k' := { k with missing := k.missing + 1 }
    if coast < k'.missing then k'.endCoast else k'
  | .suppressed => if k.closing.isSome then k.toEnding else .cleared
  | .free => k
  | .ending => k

/-- Stages 2 and 3 of the tracking step for one slot (R86). -/
def Slot.update (i : SurfaceId) (n coast : Nat) (pairs : List Pair) (regions : List Region) (index : Nat) (k : Slot) :
    Slot :=
  if k.candidate i then
    match (pairs.find? (fun p => p.slot == index)).bind (fun p => regions[p.region]?) with
    | some r => k.matched n r
    | none => k.unmatched coast
  else k

/-! ## Admission (R93 to R95) -/

/-- A contact ID is held by a slot that is not FREE. -/
def heldContact (slots : List Slot) (c : Nat) : Bool := slots.any (fun k => k.state != .free && k.contact == c)

/-- One past a contact ID, 255 followed by 1 (R95). -/
def nextAfter (c : Nat) : Nat := if c == 255 then 1 else c + 1

/-- The counter's value, advanced until no slot holds it (R95); the first argument bounds the advances. -/
def freeContact (slots : List Slot) : Nat → Nat → Nat
  | 0, c => c
  | fuel + 1, c => if heldContact slots c then freeContact slots fuel (nextAfter c) else c

/-- A newly admitted slot (R93). -/
def Slot.admitted (i : SurfaceId) (contact : Nat) (r : Region) : Slot :=
  { Slot.cleared with
    state := .tentative, surface := i, contact := contact, touch := r.touch, mark := r.touch.suppressing,
    x := r.x, y := r.y, firstX := r.x, firstY := r.y, area := r.area, peak := r.peak, age := 1 }

/-- The number of the surface's slots that are not FREE. -/
def slotsHeld (i : SurfaceId) (slots : List Slot) : Nat := slots.countP (·.ofSurface i)

/-- The table, the next-ID counter and the number of regions refused, as admission goes on. -/
structure Admission where
  slots : List Slot
  nextContact : Nat
  refused : Nat
  deriving DecidableEq, Repr

/-- One region left unpaired is admitted or refused (R93, R94). -/
def Admission.region (i : SurfaceId) (limit : Nat) (a : Admission) (r : Region) : Admission :=
  if slotsHeld i a.slots < limit then
    match a.slots.findIdx? (fun k => k.state == .free) with
    | some index =>
      let c := freeContact a.slots 255 a.nextContact
      { a with slots := a.slots.set index (.admitted i c r), nextContact := nextAfter c }
    | none => { a with refused := a.refused + 1 }
  else { a with refused := a.refused + 1 }

/-- The regions left unpaired, in ascending region index (R93). -/
def unpairedRegions (pairs : List Pair) (regions : List Region) : List Region :=
  (regions.zipIdx).filterMap (fun (r, b) => if pairs.any (fun p => p.region == b) then none else some r)

/-- Stages 1 to 4 of the tracking step on the contact table (R86). -/
def trackRegions (i : SurfaceId) (g : Geometry) (d : Detection) (n : Nat) (regions : List Region)
    (slots : List Slot) (nextContact : Nat) : Admission :=
  let stopped := slots.map (Slot.stopAfterGap i n)
  let pairs := pairing i g d.trackGate n stopped regions
  let updated := stopped.zipIdx.map (fun (k, index) => k.update i n d.coastFrames pairs regions index)
  (unpairedRegions pairs regions).foldl (Admission.region i d.contactLimit)
    { slots := updated, nextContact := nextContact, refused := 0 }

/-! ## Suppression and closing on request (R97, R98) -/

/-- A suppression of an ACTIVE or HELD slot (R97). -/
def Slot.suppress (reason : Reason) (k : Slot) : Slot :=
  let k' := if k.announced && !k.closed then k.setClosing .cancel else k
  { k' with state := .suppressed, reason := some reason }

/-- The gesture engine's request to close a slot (R98). -/
def Slot.closeOnRequest (k : Slot) : Slot :=
  if k.closed then k
  else if k.announced then k.setClosing .cancel
  else { k with closed := true }

/-! ## Entries and logical scaling (R99, R100) -/

/-- The extent of the axis that becomes X, and of the one that becomes Y (R100). -/
def extents (rep : Reporting) (g : Geometry) : Int × Int := if rep.swap then (g.wy, g.wx) else (g.wx, g.wy)

/-- A sensor position oriented and scaled into X and Y (R100). -/
def logical (rep : Reporting) (g : Geometry) (x y : Int) : Int × Int :=
  let ox := if rep.invertX then g.wx - 1 - x else x
  let oy := if rep.invertY then g.wy - 1 - y else y
  let (px, py) := if rep.swap then (oy, ox) else (ox, oy)
  let (ex, ey) := extents rep g
  (px * (rep.lx + 1) / ex, py * (rep.ly + 1) / ey)

/-- An entry from a slot as it stands. -/
def Slot.liveEntry (rep : Reporting) (g : Geometry) (state : EntryState) (k : Slot) : FrameEntry :=
  let (x, y) := logical rep g k.x k.y
  { contact := k.contact, state := state, touch := k.touch, held := k.state == .held, x := x, y := y,
    area := k.area, peak := k.peak }

/-- An entry from a closing's snapshot, scaled by the REPORTING and the GEOMETRY in force. A snapshot taken before an
accepted GEOMETRY may lie off the new surface, and its X and Y then off 0..LX and 0..LY (DESIGN CHOICE,
notes/assumptions/31.md). -/
def Slot.closingEntry (rep : Reporting) (g : Geometry) (c : Closing) (k : Slot) : FrameEntry :=
  let (x, y) := logical rep g c.x c.y
  { contact := k.contact, state := c.kind.entryState, touch := c.touch, held := c.held, x := x, y := y,
    area := c.area, peak := c.peak }

/-- The slot is reportable: ACTIVE or HELD, not closed, suppressing mark clear (R99). -/
def Slot.reportable (k : Slot) : Bool := (k.state == .active || k.state == .held) && !k.closed && !k.mark

/-- The entry a slot yields (R99). -/
def Slot.entry (rep : Reporting) (g : Geometry) (k : Slot) : Option FrameEntry :=
  match k.closing with
  | some c => some (k.closingEntry rep g c)
  | none =>
    if k.reportable then some (k.liveEntry rep g (if k.announced then .move else .down)) else none

/-- Every entry of a surface, in ascending slot index (R99). -/
def entriesOf (i : SurfaceId) (rep : Reporting) (g : Geometry) (slots : List Slot) : List FrameEntry :=
  (slots.filter (·.ofSurface i)).filterMap (·.entry rep g)

/-- UP and CANCEL entries, all that a closing-only report carries (R101). -/
def FrameEntry.closes (e : FrameEntry) : Bool := e.state == .up || e.state == .cancel

/-! ## Placement (R104, R105) -/

/-- What a placed report does to one slot it names (R104). -/
def Slot.placed (entries : List FrameEntry) (k : Slot) : Slot :=
  match entries.find? (fun e => e.contact == k.contact) with
  | none => k
  | some e =>
    match e.state with
    | .down => { k with announced := true }
    | .move => k
    | .up => if k.state == .ending then .cleared else { k with closing := none, announced := false, closed := true }
    | .cancel =>
      if k.state == .ending then .cleared else { k with closing := none, announced := false, closed := true }

/-- A frame report is offered; when it is placed, its entries are applied to the surface's slots and PAD's switch
state as reported follows it; when it is deferred nothing changes (R102, R104, R105). -/
def State.offerFrameReport (s : State) (sequence : Byte) (timestamp : BitVec 16) (r : FrameReport) : State :=
  let (p, s') := s.offer sequence timestamp (.frameReport r)
  if p.placed then
    { s' with
      slots := s'.slots.map (fun k => if k.ofSurface r.surface then k.placed r.entries else k)
      switchReported := if r.surface == .pad then r.switchClosed else s'.switchReported }
  else s'

/-- The surface has a slot holding a closing (R103). -/
def State.hasClosing (s : State) (i : SurfaceId) : Bool :=
  s.slots.any (fun k => k.ofSurface i && k.closing.isSome)

/-- The closing-only report built outside any frame (R103); PANEL's switch state is open (R101). Closings that an
accepted GEOMETRY finds are scaled by the new surface (DESIGN CHOICE, notes/assumptions/31.md). -/
def State.closingOnlyReport (s : State) (i : SurfaceId) : State :=
  let v := s.surface i
  let entries := (entriesOf i v.reporting v.geometry s.slots).filter FrameEntry.closes
  if entries.isEmpty then s
  else s.offerFrameReport v.lastTracked (low16 s.time)
    { surface := i, switchClosed := i == .pad && s.switchReported, merged := 1, entries := entries }

/-- The report of a frame at stage 7 (R101), with the switch state of the frame. -/
def State.frameReport (s : State) (i : SurfaceId) (f : ImageFrame) : State :=
  let v := s.surface i
  let all := entriesOf i v.reporting v.geometry s.slots
  let full := v.reporting.holds s.posture && v.reporting.hasContacts
  let entries := if full then all else all.filter FrameEntry.closes
  let switchClosed := i == .pad && f.switchClosed
  let switchChanged := full && i == .pad && switchClosed != s.switchReported
  if entries.isEmpty && !switchChanged then s
  else s.offerFrameReport f.sequence (low16 f.arrival)
    { surface := i, switchClosed := switchClosed, merged := 1, entries := entries }

/-! ## Surface ends and rebase (R106) -/

/-- The effect of a surface end or rebase on one slot of the surface (R106). -/
def Slot.endEffect (k : Slot) : Slot :=
  match k.state with
  | .active => if k.announced && !k.closed then (k.setClosing .cancel).toEnding else .cleared
  | .held => if k.announced && !k.closed then (k.setClosing .cancel).toEnding else .cleared
  | .tentative => .cleared
  | .suppressed => if k.closing.isSome then k.toEnding else .cleared
  | .ending => k
  | .free => k

/-- R106 on the slots of a surface. -/
def State.endSlots (s : State) (i : SurfaceId) : State :=
  s.withSlots (s.slots.map (fun k => if k.ofSurface i then k.endEffect else k))

end Sys2Proof.Machine
end

