-- ==== Sys2Proof/Machine/GestureEngine.lean ====
section
/-! DEFINITION. The gesture engine of PAD: participants and group features, gathering, commit, taps, presses,
cancellation, and the delivery of its events with the pending END (R145 to R161). -/

namespace Sys2Proof.Machine

/-! ## Participants and group features (R149) -/

/-- A participant: a PAD slot in ACTIVE or HELD of class FINGER or UNKNOWN (R149). -/
def Slot.participates (k : Slot) : Bool :=
  k.surface == .pad && (k.state == .active || k.state == .held) && (k.touch == .finger || k.touch == .unknown)

/-- The group as a stage finds it (R149); the centroid and spread mean nothing when `count` is 0. -/
structure Group where
  members : List (Nat × Nat)
  count : Nat
  x : Int
  y : Int
  spread : Int
  /-- the largest travel of any participant from its first-seen position -/
  farthest : Nat
  deriving DecidableEq, Repr

/-- The group features from the slots (R149). -/
def groupOf (slots : List Slot) : Group :=
  let parts := (slots.zipIdx).filter (fun (k, _) => k.participates)
  let n := parts.length
  let cx := rounded (total (parts.map (fun (k, _) => k.x))) n
  let cy := rounded (total (parts.map (fun (k, _) => k.y))) n
  { members := parts.map (fun (k, index) => (index, k.contact))
    count := n
    x := cx
    y := cy
    spread := total (parts.map (fun (k, _) => (distance k.x k.y cx cy : Int))) / n
    farthest := parts.foldl (fun m (k, _) => max m (distance k.firstX k.firstY k.x k.y)) 0 }

/-! ## Events -/

/-- The events of one stage before they become records (R159). -/
inductive GestureEvent where
  | ended (number : Nat) (reason : EndReason)
  | tapped (code fingers duration : Nat)
  | began (event : GestureBegin)
  | updated (event : GestureUpdate)
  | pressed (code fingers : Nat)
  | released (fingers : Nat)
  deriving DecidableEq, Repr

/-- The record body of an event, with merged count 1 (R159). -/
def GestureEvent.body : GestureEvent → Body
  | .ended number reason => .gestureEnd number reason 1
  | .tapped code fingers duration => .tap code fingers duration 1
  | .began b => .gestureBegin b
  | .updated u => .gestureUpdate u
  | .pressed code fingers => .press code fingers 1
  | .released fingers => .release fingers 1

/-- What a stage reads besides the engine and the slots. -/
structure StageInputs where
  table : List GestureEntry
  reporting : Reporting
  geometry : Geometry
  now : BitVec 32
  switchClosed : Bool
  /-- the posture read is not in PAD's mask -/
  masked : Bool
  /-- the free value counter of this stage -/
  fresh : Nat
  deriving DecidableEq, Repr

/-- The engine, the slots and the events as a stage goes on. -/
structure StageResult where
  engine : Gesture
  slots : List Slot
  events : List GestureEvent
  deriving DecidableEq, Repr

/-! ## Anchor and episode (R150, R151) -/

/-- The anchor is taken from this stage, and the hold count becomes 1 (R150). With no participant no centroid is
formed (R149), so its position and spread are free values within the surface (notes/assumptions/11.md). -/
def Gesture.anchored (q : StageInputs) (p : Group) (g : Gesture) : Gesture :=
  if p.count = 0 then
    { g with anchorX := (Config.freeNat q.fresh 0 : Int) % q.geometry.wx,
             anchorY := (Config.freeNat q.fresh 1 : Int) % q.geometry.wy,
             anchorSpread := (Config.freeNat q.fresh 2 : Int) % (q.geometry.wx + q.geometry.wy),
             anchorTime := q.now, hold := 1 }
  else { g with anchorX := p.x, anchorY := p.y, anchorSpread := p.spread, anchorTime := q.now, hold := 1 }

/-- The anchor and hold count at a stage of an episode (R150). -/
def Gesture.settle (q : StageInputs) (p : Group) (g : Gesture) : Gesture :=
  if p.count = g.members.length then { g with hold := min 255 (g.hold + 1) } else g.anchored q p

/-- The engine leaves IDLE and an episode begins (R151). -/
def Gesture.beginEpisode (q : StageInputs) (p : Group) (g : Gesture) : Gesture :=
  { g.anchored q p with
    state := .gathering, episodeStart := q.now, greatest := p.count, fingerTravel := min 65535 p.farthest,
    tapEligible := true }

/-- The greatest count and the finger travel are raised (R145, R151). -/
def Gesture.raised (p : Group) (g : Gesture) : Gesture :=
  { g with greatest := max g.greatest p.count, fingerTravel := max g.fingerTravel (min 65535 p.farthest) }

/-! ## The commit test (R152) -/

/-- The dominant direction of a movement (R152). -/
def dominant (dx dy : Int) : Direction :=
  if dy.natAbs ≤ dx.natAbs then (if 0 ≤ dx then .right else .left) else (if 0 < dy then .down else .up)

/-- What the group has done since the anchor (R149, R152). -/
structure Movement where
  dx : Int
  dy : Int
  travel : Nat
  spreadChange : Int
  elapsed : Nat
  deriving DecidableEq, Repr

/-- The movement of a stage (R152). -/
def Gesture.movement (q : StageInputs) (p : Group) (g : Gesture) : Movement :=
  { dx := p.x - g.anchorX, dy := p.y - g.anchorY, travel := distance g.anchorX g.anchorY p.x p.y,
    spreadChange := p.spread - g.anchorSpread, elapsed := (q.now - g.anchorTime).toNat }

/-- The conditions of an entry of kind DRAG or PINCH (R152). -/
def GestureEntry.commits (m : Movement) (n : Nat) (e : GestureEntry) : Bool :=
  e.used && e.fingers == n && (e.maxTime == 0 || m.elapsed ≤ e.maxTime) &&
    (match e.kind with
      | .drag =>
        e.threshold ≤ m.travel && m.spreadChange.natAbs ≤ e.limit
          && (e.direction == .any || dominant m.dx m.dy == e.direction)
      | .pinch =>
        e.threshold ≤ m.spreadChange.natAbs && m.travel ≤ e.limit
          && (e.direction == .either || (e.direction == .inward && m.spreadChange < 0)
              || (e.direction == .outward && 0 < m.spreadChange))
      | .tap => false
      | .press => false)

/-- The direction a BEGIN carries (R153). -/
def beginDirection (kind : GestureKind) (m : Movement) : Direction :=
  if kind == .drag then dominant m.dx m.dy else if m.spreadChange < 0 then .inward else .outward

/-- An entry commits: COMMITTED, BEGIN, and with capture the participants are closed (R98, R153). -/
def commitWith (q : StageInputs) (p : Group) (e : GestureEntry) (r : StageResult) : StageResult :=
  let g := r.engine
  let number := (g.number + 1) % 256
  let (x, y) := logical q.reporting q.geometry p.x p.y
  { engine := { g with
      state := .committed, number := number, tapEligible := false,
      committed := some { kind := e.kind, code := e.code, x := p.x, y := p.y, spread := p.spread } }
    slots := if e.capture then r.slots.map (fun k => if k.participates then k.closeOnRequest else k) else r.slots
    events := r.events ++ [.began { number := number, kind := e.kind, code := e.code, fingers := p.count,
                                    direction := beginDirection e.kind (g.movement q p), x := x, y := y,
                                    merged := 1 }] }

/-- The commit test: the first entry whose conditions all hold commits (R152). -/
def commitTest (q : StageInputs) (p : Group) (r : StageResult) : StageResult :=
  match q.table.find? (GestureEntry.commits (r.engine.movement q p) p.count) with
  | some e => commitWith q p e r
  | none => r

/-! ## Taps (R155) -/

/-- The first TAP entry whose conditions hold (R155). -/
def tapEntry (q : StageInputs) (g : Gesture) : Option GestureEntry :=
  q.table.find? (fun e =>
    e.used && e.kind == .tap && e.fingers == g.greatest && g.fingerTravel ≤ e.threshold
      && (e.maxTime == 0 || (q.now - g.episodeStart).toNat ≤ e.maxTime))

/-- The TAP decision when the last participant leaves in GATHERING (R155). -/
def tapDecision (q : StageInputs) (r : StageResult) : StageResult :=
  let g := r.engine
  let events := if g.tapEligible then
      match tapEntry q g with
      | some e => [GestureEvent.tapped e.code g.greatest (min 65535 (q.now - g.episodeStart).toNat)]
      | none => []
    else []
  { r with engine := { g with state := .idle }, events := r.events ++ events }

/-! ## The state machine (R151 to R154) -/

/-- A GATHERING stage, from the point where the anchor and counts of the stage are known (R151). -/
def gatheringStage (q : StageInputs) (p : Group) (r : StageResult) : StageResult :=
  if p.count = 0 then tapDecision q r
  else if q.reporting.settleFrames ≤ r.engine.hold && r.engine.pendingEnd.isNone then commitTest q p r
  else r

/-- The scaled spread of an UPDATE: as an X value (R154). -/
def scaledSpread (rep : Reporting) (g : Geometry) (spread : Int) : Int :=
  spread * (rep.lx + 1) / (extents rep g).1

/-- The spread change of an UPDATE in its two-byte field. On a surface much longer than it is wide it can pass 16 bits;
the spec states no value there, so it is free (notes/assumptions/29.md). -/
def spreadField (q : StageInputs) (change : Int) : Int :=
  if clamp16 change = change then change else (BitVec.ofNat 16 (Config.freeNat q.fresh 3)).toInt

/-- The UPDATE of a committed gesture since its reference (R154). -/
def updateOf (q : StageInputs) (p : Group) (number : Nat) (c : Committed) : GestureUpdate :=
  let (x, y) := logical q.reporting q.geometry p.x p.y
  let (rx, ry) := logical q.reporting q.geometry c.x c.y
  { number := number, dx := x - rx, dy := y - ry,
    dspread := spreadField q
      (scaledSpread q.reporting q.geometry p.spread - scaledSpread q.reporting q.geometry c.spread),
    fingers := p.count, merged := 1 }

/-- A COMMITTED stage (R154). -/
def committedStage (q : StageInputs) (p : Group) (r : StageResult) : StageResult :=
  let g := r.engine
  if p.count = 0 then
    { r with engine := { g.anchored q p with state := .idle, committed := none },
             events := r.events ++ [.ended g.number .normal] }
  else if p.count = g.members.length then
    match g.committed with
    | some c =>
      { r with
        engine := { (g.settle q p).raised p with
          committed := some { c with x := p.x, y := p.y, spread := p.spread } }
        events := r.events ++ [.updated (updateOf q p g.number c)] }
    | none => r
  else
    { r with engine := { (g.anchored q p).raised p with state := .gathering, committed := none },
             events := r.events ++ [.ended g.number .normal] }

/-- Step 4 of the stage: the state machine advances (R148, R151 to R155). -/
def advance (q : StageInputs) (p : Group) (r : StageResult) : StageResult :=
  let g := r.engine
  match g.state with
  | .idle => if p.count = 0 then r else gatheringStage q p { r with engine := g.beginEpisode q p }
  | .gathering => gatheringStage q p { r with engine := (g.settle q p).raised p }
  | .committed => committedStage q p r
  | .blocked => r

/-! ## Presses and releases (R156) -/

/-- The event code of a PRESS: the first used PRESS entry for the count, or 0 (R156). -/
def pressCode (table : List GestureEntry) (n : Nat) : Nat :=
  match table.find? (fun e => e.used && e.kind == .press && e.fingers == n) with
  | some e => e.code
  | none => 0

/-- Step 5: PRESS or RELEASE at a change of the switch (R156). -/
def decidePress (q : StageInputs) (p : Group) (r : StageResult) : StageResult :=
  if q.switchClosed && !r.engine.switchSeen then
    { r with engine := { r.engine with tapEligible := false },
             events := r.events ++ [.pressed (pressCode q.table p.count) p.count] }
  else if !q.switchClosed && r.engine.switchSeen then { r with events := r.events ++ [.released p.count] }
  else r

/-! ## Cancellation and the blocked engine (R157, R158) -/

/-- A slot of the member list is now SUPPRESSED under the same contact ID (R157). -/
def memberSuppressed (members : List (Nat × Nat)) (slots : List Slot) : Bool :=
  members.any (fun (index, contact) =>
    match slots[index]? with
    | some k => k.contact == contact && k.state == .suppressed
    | none => false)

/-- The events of a cancellation: END CANCELLED from COMMITTED (R157). -/
def Gesture.cancelEvents (g : Gesture) : List GestureEvent :=
  if g.state == .committed then [.ended g.number .cancelled] else []

/-- The engine enters BLOCKED with no committed gesture (R157). -/
def Gesture.block (g : Gesture) : Gesture := { g with state := .blocked, committed := none }

/-- PAD has no slot other than FREE and ENDING (R157). -/
def padClear (slots : List Slot) : Bool := !slots.any (fun k => k.candidate .pad)

/-- The engine enters IDLE and the episode fields are cleared (R157). -/
def Gesture.unblock (g : Gesture) : Gesture :=
  { g with state := .idle, hold := 0, greatest := 0, fingerTravel := 0, tapEligible := false }

/-- Steps 2 to 5 of a stage in a mode with gestures (R148). A stage that stops at step 2 or 3 leaves the anchor and the
hold count as they were: R150 speaks of every stage, and R148 names it in no step (DESIGN CHOICE,
notes/assumptions/30.md). -/
def gestureSteps (q : StageInputs) (p : Group) (g : Gesture) (slots : List Slot) : StageResult :=
  if memberSuppressed g.members slots || q.masked then
    { engine := g.block, slots := slots, events := g.cancelEvents }
  else if g.state == .blocked then
    if padClear slots then
      decidePress q p (advance q p { engine := g.unblock, slots := slots, events := [] })
    else { engine := g, slots := slots, events := [] }
  else decidePress q p (advance q p { engine := g, slots := slots, events := [] })

/-- The gesture stage (R148): step 6 is made whichever step the stage stops at. In CONTACTS the stage sets switch
seen and does nothing else. -/
def gestureStage (q : StageInputs) (g : Gesture) (slots : List Slot) : StageResult :=
  if q.reporting.hasGestures then
    let p := groupOf slots
    let r := gestureSteps q p g slots
    { r with engine := { r.engine with members := p.members, switchSeen := q.switchClosed } }
  else { engine := { g with switchSeen := q.switchClosed }, slots := slots, events := [] }

/-! ## Delivery (R159, R160) -/

/-- An END is offered; when it is not placed it becomes the pending END (R160). -/
def State.offerEnd (s : State) (e : PendingEnd) : State :=
  let (p, s') := s.offer e.sequence e.timestamp (.gestureEnd e.number e.reason 1)
  s'.withGesture { s'.gesture with pendingEnd := if p.placed then none else some e }

/-- The pending END is offered again (R160). -/
def State.retryEnd (s : State) : State :=
  match s.gesture.pendingEnd with
  | some e => s.offerEnd e
  | none => s

/-- One event of a frame is offered. A dropped BEGIN ends its gesture silently and blocks the engine (R159). -/
def State.offerEvent (s : State) (sequence : Byte) (timestamp : BitVec 16) (e : GestureEvent) : State :=
  match e with
  | .ended number reason =>
    s.offerEnd { number := number, reason := reason, sequence := sequence, timestamp := timestamp }
  | .began b =>
    let (p, s') := s.offer sequence timestamp (.gestureBegin b)
    if p.placed then s' else s'.withGesture s'.gesture.block
  | e => (s.offer sequence timestamp e.body).2

/-- The events of one stage in the order END, TAP, BEGIN, UPDATE, then PRESS or RELEASE (R159). -/
def GestureEvent.rank : GestureEvent → Nat
  | .ended _ _ => 0
  | .tapped _ _ _ => 1
  | .began _ => 2
  | .updated _ => 3
  | .pressed _ _ => 4
  | .released _ => 4

/-- The events of a frame are offered in R159's order. -/
def State.offerEvents (s : State) (sequence : Byte) (timestamp : BitVec 16) (events : List GestureEvent) : State :=
  ((upTo 5).flatMap (fun rank => events.filter (fun e => e.rank == rank))).foldl
    (fun s e => s.offerEvent sequence timestamp e) s

/-- Cancellation outside a frame: a surface end or rebase of PAD, or a change of report mode away from gestures
(R158). -/
def State.cancelOutside (s : State) : State :=
  let g := s.gesture
  let blocked := g.block
  let after := if padClear s.slots && s.pad.reporting.holds s.posture && s.pad.reporting.hasGestures
    then blocked.unblock else blocked
  let s' := s.withGesture after
  if g.state == .committed then
    s'.offerEnd { number := g.number, reason := .cancelled, sequence := s.pad.lastTracked,
                  timestamp := low16 s.time }
  else s'

end Sys2Proof.Machine
end

