-- ==== Sys2Proof/Machine/Pen.lean ====
section
/-! DEFINITION. The pen decoder: signal and position, the data word, ageing, the state machine, the pressure curve,
pen reports and the pen's surface end (R126 to R144), and the PEN_STAGE. -/

namespace Sys2Proof.Machine

/-! ## Signal and position (R128, R129) -/

/-- The peak of a profile and its line, the lowest of equal maxima (R128). -/
def profilePeak (profile : List Int) : Int × Nat :=
  match profile with
  | [] => (0, 0)
  | a :: rest =>
    let top := rest.foldl max a
    (top, profile.idxOf top)

/-- The position on one axis (R129); a neighbour beyond the ends counts as 0. -/
def axisPosition (profile : List Int) (extent : Int) : Int :=
  let (top, p) := profilePeak profile
  let lower := if p == 0 then 0 else profile.getD (p - 1) 0
  let upper := profile.getD (p + 1) 0
  let den := 2 * top - lower - upper
  let offset := if den == 0 then 0 else clampInt (-32) 31 (rounded (32 * (upper - lower)) den)
  clampInt 0 (extent - 1) (64 * p + 32 + offset)

/-- The pen signal is present: both peaks reach hover_threshold (R128). -/
def signalPresent (threshold : Nat) (sense drive : List Int) : Bool :=
  (threshold : Int) ≤ (profilePeak sense).1 && (threshold : Int) ≤ (profilePeak drive).1

/-! ## The data word (R130, R131) -/

/-- The syndrome: the exclusive-or of the positions 1 to 25 whose bit is 1 (R131). -/
def syndrome (w : BitVec 26) : Nat := (upTo 26).foldl (fun s i => if w.getLsbD i then s ^^^ i else s) 0

/-- The parity: the exclusive-or of all 26 bits (R131). -/
def parity (w : BitVec 26) : Bool := (upTo 26).foldl (fun p i => p != w.getLsbD i) false

/-- The data fields of a word (R130). -/
structure PenData where
  raw : Nat
  tip : Bool
  barrel : Bool
  eraser : Bool
  batteryLow : Bool
  tag : Nat
  deriving DecidableEq, Repr

/-- A number from the bits at the given positions, least significant first. -/
def numberAt (w : BitVec 26) (positions : List Nat) : Nat :=
  positions.foldr (fun i rest => (if w.getLsbD i then 1 else 0) + 2 * rest) 0

/-- The data fields at their codeword positions (R130). -/
def penData (w : BitVec 26) : PenData :=
  { raw := numberAt w [3, 5, 6, 7, 9, 10, 11, 12, 13, 14, 15, 17], tip := w.getLsbD 18, barrel := w.getLsbD 19,
    eraser := w.getLsbD 20, batteryLow := w.getLsbD 21, tag := numberAt w [22, 23, 24, 25] }

/-- How a word decodes (R131). -/
inductive WordOutcome where
  | usable (quality : Quality) (data : PenData)
  | uncorrectable
  deriving DecidableEq, Repr

/-- The outcome table of R131. -/
def decodeWord (w : BitVec 26) : WordOutcome :=
  let s := syndrome w
  if s == 0 then .usable (if parity w then .corrected else .clean) (penData w)
  else if parity w && s ≤ 25 then .usable .corrected (penData (w ^^^ (1#26 <<< s)))
  else .uncorrectable

/-! ## The record (R126, R132 to R137) -/

/-- The data is cleared (R126). -/
def PenRecord.clearData (p : PenRecord) : PenRecord :=
  { p with raw := 0, tip := false, barrel := false, eraser := false, batteryLow := false, tag := 0, quality := .held,
           dataAge := 255 }

/-- No usable word: the data is held and ages by the frames elapsed (R134). -/
def PenRecord.holdData (n : Nat) (p : PenRecord) : PenRecord :=
  { p with quality := .held, dataAge := min 255 (p.dataAge + n) }

/-- A usable word replaces the data (R132). -/
def PenRecord.takeData (quality : Quality) (d : PenData) (p : PenRecord) : PenRecord :=
  { p with raw := d.raw, tip := d.tip, barrel := d.barrel, eraser := d.eraser, batteryLow := d.batteryLow,
           tag := d.tag, quality := quality, dataAge := 0 }

/-- Data older than 8 frame periods is aged out while the signal is present (R135). -/
def PenRecord.ageOut (p : PenRecord) : PenRecord := if 8 < p.dataAge then { p with tip := false, raw := 0 } else p

/-- The record's data after a frame whose signal is present (R132 to R135). -/
def PenRecord.presentData (n : Nat) (word : Option (BitVec 26)) (p : PenRecord) : PenRecord :=
  (match word with
    | none => p.holdData n
    | some w =>
      match decodeWord w with
      | .usable quality d => p.takeData quality d
      | .uncorrectable => p.holdData n).ageOut

/-- The present branch of the state machine (R136). -/
def PenRecord.present (x y : Int) (p : PenRecord) : PenRecord :=
  { p with state := if p.tip then .contact else .hover, x := x, y := y, coasting := false, missing := 0 }

/-- The pen leaves range in a frame without signal (R137). -/
def PenRecord.leaves (n hold : Nat) (p : PenRecord) : Bool := p.state != .outOfRange && hold < p.missing + n

/-- The absent branch of the state machine, before the data of a pen that left is cleared (R137). -/
def PenRecord.absent (n hold : Nat) (p : PenRecord) : PenRecord :=
  if p.state == .outOfRange then p
  else if p.leaves n hold then { p with state := .outOfRange, coasting := false, missing := 0 }
  else { p with missing := p.missing + n, coasting := true }

/-! ## Pressure and reports (R139 to R141) -/

/-- The curve's output for a raw pressure (R139). -/
def curveOutput (curve : List CurvePoint) (r : Nat) : Int :=
  let k := r / 512
  let lo : Int := (curve.getD k .atReset).value
  let hi : Int := (curve.getD (k + 1) .atReset).value
  lo + ((r : Int) - 512 * k) * (hi - lo) / 512

/-- A pen report from a record (R139, R141). -/
def penReportOf (rep : Reporting) (g : Geometry) (curve : List CurvePoint) (p : PenRecord) : PenReport :=
  let (x, y) := logical rep g p.x p.y
  { state := p.state, x := x, y := y, pressure := if p.state == .contact then curveOutput curve p.raw else 0,
    tip := p.tip && p.state != .outOfRange, barrel := p.barrel, eraser := p.eraser, batteryLow := p.batteryLow,
    coasting := p.coasting, tag := p.tag, quality := p.quality, merged := 1 }

/-- A due pen report is built in an unmasked posture and offered (R140, R141). -/
def State.offerPenReport (s : State) (sequence : Byte) (timestamp : BitVec 16) (p : PenRecord) : State :=
  if s.panel.reporting.holds s.posture then
    (s.offer sequence timestamp (.penReport (penReportOf s.panel.reporting s.panel.geometry s.curve p))).2
  else s

/-- The linger state set when the pen leaves range in a frame (R120). -/
def State.lingerFrom (s : State) (p : PenRecord) : Option Linger :=
  if s.panelRejection.linger == 0 then none
  else some { deadline := s.time + BitVec.ofNat 32 s.panelRejection.linger, x := p.x, y := p.y }

/-- The counts and the fault of a word decoded in a frame with signal; they stand whatever becomes of the frame
(R132, R133). -/
def State.countWord (s : State) (sequence : Byte) (word : Option (BitVec 26)) : State :=
  match word with
  | none => s
  | some w =>
    match decodeWord w with
    | .usable .corrected _ => { s with penCorrected := bump s.penCorrected 1 }
    | .usable _ _ => s
    | .uncorrectable =>
      { s with penUncorrectable := bump s.penUncorrectable 1 }.raiseFault .penUncorrectable .pen sequence
        (syndrome w + (if parity w then 32 else 0))

/-- The completion of a PEN frame: the record takes its new values, and the next frame may be taken (R25, R127). -/
def State.completePen (s : State) (p : PenRecord) (linger : Option Linger) (sequence : Byte) : State :=
  (s.withPen { p with lastSequence := sequence }).withLinger linger |>.withSurface .panel
    { s.panel with penFlight := none }

/-- PEN_STAGE with the signal present (R129, R132 to R136, R140). -/
def State.penFramePresent (s : State) (f : PenFrame) (sense drive : List Int) : State :=
  let v := s.panel
  let p := (s.pen.presentData f.elapsed f.word).present (axisPosition sense v.geometry.wx)
    (axisPosition drive v.geometry.wy)
  (((s.countWord f.sequence f.word).completePen p none f.sequence).offerPenReport f.sequence (low16 f.arrival) p)

/-- PEN_STAGE with the signal absent (R134, R137, R140). A report is due unless the frame begins in OUT_OF_RANGE. -/
def State.penFrameAbsent (s : State) (f : PenFrame) : State :=
  let aged := s.pen.holdData f.elapsed
  let left := aged.leaves f.elapsed s.penBlock.penHold
  let p := aged.absent f.elapsed s.penBlock.penHold
  let done := s.completePen (if left then p.clearData else p) (if left then s.lingerFrom p else s.linger) f.sequence
  if s.pen.state == .outOfRange then done else done.offerPenReport f.sequence (low16 f.arrival) p

/-- PEN_STAGE of PANEL's PEN frame in flight (R127). -/
def State.penStage (s : State) : State :=
  match s.panel.penFlight with
  | some f =>
    let sense := s.panel.senseProfile f.samples
    let drive := s.panel.driveProfile f.samples
    (if signalPresent s.penBlock.hoverThreshold sense drive then s.noteWait.penFramePresent f sense drive
      else s.noteWait.penFrameAbsent f).takePen .panel
  | none => s

/-- The pen decoder's surface-end effect (R144). -/
def State.endPen (s : State) : State :=
  let before := s.pen
  let out := { before with state := .outOfRange, coasting := false, missing := 0 }
  let done := (s.withPen out.clearData).withLinger none
  if before.state == .outOfRange then done else done.offerPenReport before.lastSequence (low16 s.time) out

/-- The row PEN_STAGE. -/
def execPenStage (s : State) : Host.Outcome State Fault Refusal :=
  .next (if s.started then s.penStage else s)

end Sys2Proof.Machine
end

