-- ==== Sys2Proof/Machine/SurfaceEnd.lean ====
section
/-! DEFINITION. Surface ends and rebases with the records of their effects (R12 to R14, R53, R106), and the
FRAME_TIMEOUT. -/

namespace Sys2Proof.Machine

/-- What a surface end does to the surface's own context: frames in flight abandoned, pending slots emptied, timer
stopped, expected sequence numbers unset, baseline invalid and acquisition discarded (R8, R12, R13, R53). -/
def Surface.ended (v : Surface) (status : SurfaceState) : Surface :=
  { v with
    status := status, imageSlot := none, penSlot := none, imageFlight := none, penFlight := none,
    expectedImage := none, expectedPen := none, timer := none, baseline := v.geometry.zeroImage,
    baselineValid := false, sums := v.geometry.zeroImage, collected := 0, driftCounter := 0, anomalyCount := 0 }

/-- A fresh acquisition: the surface is ACQUIRING with nothing collected and the counts at 0; the baseline is kept
(R4, R9, R10, R42). -/
def Surface.acquiring (v : Surface) : Surface :=
  { v with status := .acquiring, sums := v.geometry.zeroImage, collected := 0, driftCounter := 0, anomalyCount := 0 }

/-- A pending capture of the surface is answered ABORTED (R52). -/
def State.abortCapture (s : State) (i : SurfaceId) : State :=
  match s.pendingCapture with
  | some c => if c.surface == i then (s.withPendingCapture none).respond c.tag 11 .aborted [] else s
  | none => s

/-- The effect on the gesture engine or the pen decoder of the surface (R144, R158). -/
def State.endOwner (s : State) : SurfaceId → State
  | .pad => s.cancelOutside
  | .panel => s.endPen

/-- A surface end: every block's effect, and the records in R14's order. A request that waits for a frame it abandons
has waited (R176). -/
def State.endSurface (s : State) (i : SurfaceId) (status : SurfaceState) : State :=
  ((((s.noteWait.withSurface i ((s.surface i).ended status)).endSlots i).closingOnlyReport i).endOwner i).abortCapture i

/-- The rebase of a surface as far as its closing-only report (R10, R106). -/
def State.rebaseSlots (s : State) (i : SurfaceId) : State :=
  ((s.withSurface i (s.surface i).acquiring).endSlots i).closingOnlyReport i

/-- A rebase by request: PAD's engine is cancelled when PAD was RUNNING (R10, R158). -/
def State.rebase (s : State) (i : SurfaceId) : State :=
  if i == .pad && s.pad.status == .running then (s.rebaseSlots i).cancelOutside else s.rebaseSlots i

/-- FRAME_TIMEOUT: the expiry of a running timer that has counted down to 0 is taken. The fault and its ALERT come
first, then the surface end's records (R8). -/
def State.frameTimeout (s : State) (i : SurfaceId) : State :=
  let v := s.surface i
  if v.timer == some 0 then
    ((s.countLink i (fun c => { c with timeouts := bump c.timeouts 1 })).raiseFault .scanTimeout (linkSource i)
      v.lastGood v.detection.frameTimeout).endSurface i .stalled
  else s

/-- The row FRAME_TIMEOUT. -/
def execFrameTimeout (i : SurfaceId) (s : State) : Host.Outcome State Fault Refusal :=
  .next (if s.started then s.frameTimeout i else s)

end Sys2Proof.Machine
end

