-- ==== Sys2Proof/Machine/Baseline.lean ====
section
/-! DEFINITION. The baseline unit: acquisition, delta formation, drift, the anomaly test, captures, and the
BASELINE_STAGE (R36 to R52). -/

namespace Sys2Proof.Machine

/-! ## Captures (R48 to R50) -/

/-- The data of a CAPTURE's RESPONSE OK (R189). -/
def CaptureBuffer.responseData (c : CaptureBuffer) : List Byte :=
  [enumByte captureKindOrder c.kind, enumByte surfaceOrder c.surface, byteOf c.driveLines, byteOf c.senseLines,
    c.sequence] ++ stamp (low16 c.arrival) ++ [flagByte [c.valid]]

/-- A pending capture of the kind and surface is taken from an image of a frame and answered OK (R48). -/
def State.serveCapture (s : State) (i : SurfaceId) (kind : CaptureKind) (f : ImageFrame) (image : Image) : State :=
  match s.pendingCapture with
  | some c =>
    if c.surface == i && c.kind == kind then
      let content : CaptureBuffer :=
        { surface := i, kind := kind, driveLines := (s.surface i).geometry.driveLines,
          senseLines := (s.surface i).geometry.senseLines, sequence := f.sequence, arrival := f.arrival, valid := true,
          image := image }
      ((s.withCaptureBuffer (some content)).withPendingCapture none).respond c.tag 11 .ok content.responseData
    else s
  | none => s

/-! ## Acquisition (R40, R41) -/

/-- Two images combined node by node. -/
def zipImages (f : Int → Int → Int) (a b : Image) : Image := List.zipWith (List.zipWith f) a b

/-- The surface once an acquisition frame completes: the sums and the count grow, and at acquire_frames the baseline
is formed and the surface is RUNNING (R40, R41). -/
def Surface.acquire (v : Surface) (image : Image) : Surface :=
  let sums := zipImages (· + ·) v.sums image
  if v.detection.acquireFrames ≤ v.collected + 1 then
    { v with
      status := .running, imageFlight := none, baseline := sums.map (·.map (rounded · v.detection.acquireFrames)),
      baselineValid := true, sums := v.geometry.zeroImage, collected := 0, driftCounter := 0, anomalyCount := 0 }
  else { v with imageFlight := none, sums := sums, collected := v.collected + 1 }

/-- What the completion of an IMAGE frame brings: on PAD the pending END is offered again, and the next frame is
taken (R25, R160). -/
def State.imageCompletes (s : State) (i : SurfaceId) : State :=
  (if i == .pad then s.retryEnd else s).takeImage i

/-- The baseline stage in ACQUIRING (R37, R40). -/
def State.acquisitionStage (s : State) (i : SurfaceId) (f : ImageFrame) : State :=
  let v := s.surface i
  let image := v.substitute (v.mapImage f.samples)
  ((s.noteWait.serveCapture i .raw f image).withSurface i (v.acquire image)).imageCompletes i

/-! ## The delta image (R38, R39) -/

/-- The delta of a node, clamped (R38). -/
def deltaOf (p : Polarity) (r b : Int) : Int :=
  match p with
  | .positive => clamp16 (r - b)
  | .negative => clamp16 (b - r)

/-- The delta image as R38 forms it, before substitution. -/
def Surface.delta (v : Surface) (raw : Image) : Image := zipImages (deltaOf v.geometry.polarity) raw v.baseline

/-- A node is live (R39). -/
def Surface.liveNode (v : Surface) (d k : Nat) : Bool := !v.deadDrive.contains d && !v.deadSense.contains k

/-- The deltas of the live nodes, as R38 formed them (R39). -/
def Surface.liveDeltas (v : Surface) (delta : Image) : List Int :=
  (delta.zipIdx).flatMap (fun (row, d) =>
    (row.zipIdx).filterMap (fun (x, k) => if v.liveNode d k then some x else none))

/-! ## The anomaly test and drift (R43 to R46) -/

/-- The frame is anomalous (R46). -/
def Surface.anomalous (v : Surface) (delta : Image) : Bool :=
  (v.liveDeltas delta).any (fun x => x ≤ -(v.detection.negativeThreshold : Int))

/-- A baseline value moved toward the raw value by at most the step (R45). -/
def driftNode (step : Nat) (r b : Int) : Int :=
  if b < r then b + min (r - b) step else b - min (b - r) step

/-- Drift is frozen: the surface has a tracked slot (R44). -/
def State.driftFrozen (s : State) (i : SurfaceId) : Bool := s.slots.any (·.candidate i)

/-- The baseline after drift: live nodes whose delta's magnitude is below touch_threshold move (R45). -/
def Surface.drifted (v : Surface) (raw delta : Image) : Image :=
  (v.baseline.zipIdx).map (fun (row, d) =>
    (row.zipIdx).map (fun (b, k) =>
      let x := (delta.getD d []).getD k 0
      if v.liveNode d k && decide (x.natAbs < v.detection.touchThreshold) then
        driftNode v.detection.driftStep ((raw.getD d []).getD k 0) b
      else b))

/-- The changes of a RUNNING frame without automatic rebase (R43 to R46). -/
def Surface.baselineUpdate (v : Surface) (frozen : Bool) (anomalies : Nat) (raw delta : Image) : BaselineUpdate :=
  let opportunity := decide (v.detection.driftInterval ≤ v.driftCounter + 1)
  { baseline := if opportunity && !frozen then v.drifted raw delta else v.baseline
    driftCounter := if opportunity then 0 else v.driftCounter + 1
    anomalyCount := anomalies }

/-- The magnitude of the lowest live delta (R47). -/
def Surface.lowestMagnitude (v : Surface) (delta : Image) : Nat := ((v.liveDeltas delta).foldl min 0).natAbs

/-- The automatic rebase: counted and raised, then the rebase effects with their records, then the frame's completion,
which offers on PAD the pending END again, one that the rebase has just left pending too (R11, R47, R158, R160). -/
def State.automaticRebase (s : State) (i : SurfaceId) (f : ImageFrame) (magnitude : Nat) : State :=
  let s1 := (s.noteWait.countLink i (fun c => { c with autoRebases := bump c.autoRebases 1 })).raiseFault .autoRebase
    (linkSource i) f.sequence magnitude
  let s2 := (s1.withSurface i { s1.surface i with imageFlight := none }).rebaseSlots i
  (if i == .pad then s2.cancelOutside else s2).imageCompletes i

/-- The baseline stage in RUNNING (R37, R43 to R47). -/
def State.runningStage (s : State) (i : SurfaceId) (f : ImageFrame) : State :=
  let v := s.surface i
  let raw := v.mapImage f.samples
  let formed := v.delta raw
  let delta := v.substitute formed
  let anomalous := v.anomalous formed
  let anomalies := if anomalous then v.anomalyCount + 1 else 0
  let s1 := (s.serveCapture i .raw f (v.substitute raw)).serveCapture i .delta f delta
  if anomalous && decide (v.detection.anomalyFrames ≤ anomalies) then
    s1.automaticRebase i f (v.lowestMagnitude formed)
  else
    s1.withSurface i { v with
      imageFlight := some { frame := f
                            progress := .baselined delta
                              (v.baselineUpdate (s.driftFrozen i) anomalies raw formed) } }

/-- BASELINE_STAGE of the surface's IMAGE frame in flight (R37). -/
def State.baselineStage (s : State) (i : SurfaceId) : State :=
  match (s.surface i).imageFlight with
  | some { frame := f, progress := .taken } =>
    match (s.surface i).status with
    | .acquiring => s.acquisitionStage i f
    | .running => s.runningStage i f
    | .stopped => s
    | .stalled => s
  | _ => s

/-- The row BASELINE_STAGE. -/
def execBaselineStage (i : SurfaceId) (s : State) : Host.Outcome State Fault Refusal :=
  .next (if s.started then s.baselineStage i else s)

end Sys2Proof.Machine
end

