-- ==== Sys2Proof/Machine/Intake.lean ====
section
/-! DEFINITION. Scan links: the receive framer, the intake checks, unpacking, the pending slots, the relay path and
the time base (R17 to R29, R184). -/

namespace Sys2Proof.Machine

/-! ## The framer (R17) -/

/-- The framer goes to a phase. -/
def State.withFramer (s : State) (i : SurfaceId) (f : Framer) : State :=
  s.withSurface i { s.surface i with framer := f }

/-- The link takes part: start-up is complete and the surface is present (R1, R17, R18). -/
def State.linkServed (s : State) (i : SurfaceId) : Bool := s.started && s.present i

/-- A kind byte is IMAGE or PEN (R188). -/
def frameKind (kind : Byte) : Bool := kind == 1 || kind == 2

/-- A packet the framer abandons is counted and raised: in any state but STOPPED, and in STOPPED when its header is
complete and its kind neither IMAGE nor PEN (R17). -/
def State.abandonCounted (s : State) (i : SurfaceId) (header : Option ScanHeader) : Bool :=
  s.linkServed i &&
    ((s.surface i).status != .stopped ||
      (match header with
        | some h => !frameKind h.kind
        | none => false))

/-- One LENGTH_ERRORS and the fault SCAN_LENGTH with its reason (R17, R20, R26). -/
def State.lengthFault (s : State) (i : SurfaceId) (sequence : Byte) (reason : LengthReason) : State :=
  (s.countLink i (fun c => { c with lengthErrors := bump c.lengthErrors 1 })).raiseFault .scanLength (linkSource i)
    sequence (codeIn lengthReasonOrder reason)

/-- The framer abandons the packet and returns to HUNTING (R17). -/
def State.abandonPacket (s : State) (i : SurfaceId) (header : Option ScanHeader) (reason : LengthReason) : State :=
  let s1 := s.withFramer i .hunting
  if s.abandonCounted i header then
    s1.lengthFault i (match header with
      | some h => h.sequence
      | none => 0) reason
  else s1

/-- START_DELIMITER: outside HUNTING the byte is ordinary data (R17). -/
def State.startDelimiter (s : State) (i : SurfaceId) : State :=
  match (s.surface i).framer with
  | .hunting => s.withFramer i .header
  | .header => s
  | .payload _ => s

/-- HEADER_COMPLETE: a declared count of at most 8064 enters PAYLOAD (R17). -/
def State.headerComplete (s : State) (i : SurfaceId) (h : ScanHeader) : State :=
  match (s.surface i).framer with
  | .header => if h.payloadCount.toNat ≤ 8064 then s.withFramer i (.payload h) else s
  | .hunting => s
  | .payload _ => s

/-- OVERSIZE: a declared count above 8064 (R17). -/
def State.oversize (s : State) (i : SurfaceId) (h : ScanHeader) : State :=
  match (s.surface i).framer with
  | .header => if 8064 < h.payloadCount.toNat then s.abandonPacket i (some h) .oversize else s
  | .hunting => s
  | .payload _ => s

/-- TRUNCATED: 2 ms without a byte in HEADER or PAYLOAD (R17). -/
def State.truncated (s : State) (i : SurfaceId) : State :=
  match (s.surface i).framer with
  | .hunting => s
  | .header => s.abandonPacket i none .truncated
  | .payload h => s.abandonPacket i (some h) .truncated

/-! ## The form check and unpacking (R20, R21) -/

/-- The payload bytes a run of samples takes (R20). -/
def samplesLength (format : SampleFormat) (n : Nat) : Nat :=
  match format with
  | .s16 => 2 * n
  | .u12p => 3 * ((n + 1) / 2)

/-- The pen word flag of a header (R188). -/
def headerPenWord (h : ScanHeader) : Bool := h.flags.getLsbD 1

/-- The switch flag of a header (R188). -/
def headerSwitch (h : ScanHeader) : Bool := h.flags.getLsbD 0

/-- The number of samples of an IMAGE, or of a PEN packet (R21). -/
def Geometry.imageSamples (g : Geometry) : Nat := g.driveChannels * g.senseChannels

def Geometry.penSamples (g : Geometry) : Nat := g.senseChannels + g.driveChannels

/-- A payload length is the required one (R20). -/
def lengthRight (h : ScanHeader) (g : Geometry) (n : Nat) : Bool :=
  match h.kind.toNat with
  | 1 => n == samplesLength g.format g.imageSamples
  | 2 => n == samplesLength g.format g.penSamples + (if headerPenWord h then 4 else 0)
  | _ => 1 ≤ n && n ≤ 64

/-- The reason of the first row of R20's table that applies. -/
def formFailure (g : Geometry) (i : SurfaceId) (h : ScanHeader) (n : Nat) : Option LengthReason :=
  let frame := frameKind h.kind
  if !frame && h.kind != 3 then some .kind
  else if h.kind == 2 && i == .pad then some .penOnPad
  else if frame && (h.driveCount.toNat != g.driveChannels || h.senseCount.toNat != g.senseChannels) then some .count
  else if frame && h.format.toNat != codeIn sampleFormatOrder g.format then some .format
  else if !lengthRight h g n then some .length
  else none

/-- The signed samples of S16 (R21, R188). -/
def samplesS16 : List Byte → List Int
  | lo :: hi :: rest => (BitVec.ofNat 16 (word16 lo hi)).toInt :: samplesS16 rest
  | _ => []

/-- The unsigned samples of U12P, a pad value at the end of an odd run included (R21, R188). -/
def samplesU12P : List Byte → List Int
  | b0 :: b1 :: b2 :: rest =>
    (b0.toNat + 256 * (b1.toNat % 16) : Nat) :: (b1.toNat / 16 + 16 * b2.toNat : Nat) :: samplesU12P rest
  | _ => []

/-- The `n` samples a payload begins with (R21). -/
def unpackSamples (format : SampleFormat) (n : Nat) (payload : List Byte) : List Int :=
  let run := payload.take (samplesLength format n)
  match format with
  | .s16 => (samplesS16 run).take n
  | .u12p => (samplesU12P run).take n

/-- The pen codeword in the four bytes after the samples; its high bits are ignored (R21, R188). -/
def penWordOf (g : Geometry) (payload : List Byte) : BitVec 26 :=
  let field := payload.drop (samplesLength g.format g.penSamples)
  BitVec.ofNat 26 (word16At field 0 + 65536 * word16At field 2)

/-! ## The sequence check (R22) -/

/-- Frames missed before a packet of a sequence (R22). -/
def framesMissed (expected : Option Byte) (sequence : Byte) : Nat :=
  match expected with
  | none => 0
  | some e => (sequence - e).toNat

/-- The link's expected number of a kind (R22). -/
def Surface.expected (v : Surface) (pen : Bool) : Option Byte := if pen then v.expectedPen else v.expectedImage

/-- The sequence check: the expected number moves on, gaps are counted and raised (R22). -/
def State.sequenceCheck (s : State) (i : SurfaceId) (pen : Bool) (sequence : Byte) (missed : Nat) : State :=
  let v := s.surface i
  let next := some (sequence + 1)
  let s1 := (s.withSurface i (if pen then { v with expectedPen := next } else { v with expectedImage := next }))
    |>.countLink i (fun c => { c with seqGaps := bump c.seqGaps missed })
  if missed == 0 then s1 else s1.raiseFault .seqGap (linkSource i) sequence missed

/-! ## Good frames (R7, R9, R23, R24) -/

/-- A good frame notes its sequence and restarts the timer in ACQUIRING and RUNNING (R7, R8). -/
def Surface.goodFrame (v : Surface) (sequence : Byte) : Surface :=
  { v with
    lastGood := sequence
    timer := if v.status == .acquiring || v.status == .running then some v.detection.frameTimeout else v.timer }

/-- A good IMAGE frame returns a STALLED surface to ACQUIRING (R9). -/
def Surface.returned (v : Surface) : Surface := if v.status == .stalled then v.acquiring else v

/-- OVERRUNS and the fault SCAN_OVERRUN (R24, R26). -/
def State.overrun (s : State) (i : SurfaceId) (arriving replaced : Byte) : State :=
  (s.countLink i (fun c => { c with overruns := bump c.overruns 1 })).raiseFault .scanOverrun (linkSource i) arriving
    replaced.toNat

/-- A good IMAGE frame reaches its pending slot (R9, R23, R24, R25). -/
def State.imageArrives (s : State) (i : SurfaceId) (f : ImageFrame) : State :=
  let v := (s.surface i).returned.goodFrame f.sequence
  match v.imageSlot with
  | none => (s.withSurface i { v with imageSlot := some f }).takeImage i
  | some old =>
    (s.withSurface i { v with imageSlot := some { f with elapsed := bump old.elapsed f.elapsed } }).overrun i
      f.sequence old.sequence

/-- A good PEN frame reaches its pending slot, or is discarded in STALLED (R9, R23, R24, R25). -/
def State.penArrives (s : State) (i : SurfaceId) (f : PenFrame) : State :=
  let v := (s.surface i).goodFrame f.sequence
  if v.status == .stalled then s.withSurface i v
  else match v.penSlot with
    | none => (s.withSurface i { v with penSlot := some f }).takePen i
    | some old =>
      (s.withSurface i { v with penSlot := some { f with elapsed := bump old.elapsed f.elapsed } }).overrun i
        f.sequence old.sequence

/-- A packet that passed the form check: a REPLY is forwarded at once, a frame meets the sequence check
(R22, R23, R29). -/
def State.goodPacket (s : State) (i : SurfaceId) (h : ScanHeader) (payload : List Byte) : State :=
  let v := s.surface i
  let g := v.geometry
  match h.kind.toNat with
  | 1 =>
    let missed := framesMissed v.expectedImage h.sequence
    (s.sequenceCheck i false h.sequence missed).imageArrives i
      { sequence := h.sequence, elapsed := missed + 1, switchClosed := i == .pad && headerSwitch h,
        arrival := s.time, samples := unpackSamples g.format g.imageSamples payload }
  | 2 =>
    let missed := framesMissed v.expectedPen h.sequence
    (s.sequenceCheck i true h.sequence missed).penArrives i
      { sequence := h.sequence, elapsed := missed + 1,
        word := if headerPenWord h then some (penWordOf g payload) else none,
        arrival := s.time, samples := unpackSamples g.format g.penSamples payload }
  | _ => (s.offer h.sequence (low16 s.time) (.relay i payload)).2

/-- A complete packet on a link that takes part: the checks in their order (R18 to R20). -/
def State.checkPacket (s : State) (i : SurfaceId) (h : ScanHeader) (payload : List Byte) (crc : BitVec 16) : State :=
  let v := s.surface i
  if v.status == .stopped && frameKind h.kind then s
  else if crc16 (headerBytes h ++ payload) != crc then
    (s.countLink i (fun c => { c with crcErrors := bump c.crcErrors 1 })).raiseFault .scanCrc (linkSource i)
      h.sequence h.kind.toNat
  else match formFailure v.geometry i h payload.length with
    | some reason => s.lengthFault i h.sequence reason
    | none => s.goodPacket i h payload

/-- SCAN_PACKET: the packet whose header the framer holds is complete; the framer returns to HUNTING (R17, R18). The
CRC's two bytes are read least significant first (R187). -/
def State.scanPacket (s : State) (i : SurfaceId) (payload : List Byte) (crc : Byte × Byte) : State :=
  match (s.surface i).framer with
  | .payload h =>
    if payload.length == h.payloadCount.toNat then
      let s1 := s.withFramer i .hunting
      if s.linkServed i then s1.checkPacket i h payload (BitVec.ofNat 16 (word16 crc.1 crc.2)) else s1
    else s
  | .hunting => s
  | .header => s

/-! ## The relay buffer and the time base -/

/-- RELAY_TRANSMIT_COMPLETE: the buffer is empty again (R28). -/
def State.relayTransmitComplete (s : State) (i : SurfaceId) : State :=
  s.withSurface i { s.surface i with relay := none }

/-- A running timer counts a millisecond; at 0 it waits for its expiry to be taken (R7, R116; see
notes/assumptions/4.md). -/
def countDown (timer : Option Nat) : Option Nat := timer.map (fun n => n - 1)

/-- TIME_BASE_TICK: the count advances by one and wraps; the running timers count it (R7, R115, R184). -/
def State.timeBaseTick (s : State) : State :=
  { s with
    time := s.time + 1
    pad := { s.pad with timer := countDown s.pad.timer }
    panel := { s.panel with timer := countDown s.panel.timer }
    guard := countDown s.guard }

/-! ## The rows -/

/-- The row START_DELIMITER. -/
def execStartDelimiter (i : SurfaceId) (s : State) : Host.Outcome State Fault Refusal := .next (s.startDelimiter i)

/-- The row HEADER_COMPLETE. -/
def execHeaderComplete (i : SurfaceId) (h : ScanHeader) (s : State) : Host.Outcome State Fault Refusal :=
  .next (s.headerComplete i h)

/-- The row OVERSIZE. -/
def execOversize (i : SurfaceId) (h : ScanHeader) (s : State) : Host.Outcome State Fault Refusal :=
  .next (s.oversize i h)

/-- The row TRUNCATED. -/
def execTruncated (i : SurfaceId) (s : State) : Host.Outcome State Fault Refusal := .next (s.truncated i)

/-- The row SCAN_PACKET. -/
def execScanPacket (i : SurfaceId) (payload : List Byte) (crc : Byte × Byte) (s : State) :
    Host.Outcome State Fault Refusal := .next (s.scanPacket i payload crc)

/-- The row RELAY_TRANSMIT_COMPLETE. -/
def execRelayTransmitComplete (i : SurfaceId) (s : State) : Host.Outcome State Fault Refusal :=
  .next (s.relayTransmitComplete i)

/-- The row TIME_BASE_TICK. -/
def execTimeBaseTick (s : State) : Host.Outcome State Fault Refusal :=
  .next (if s.started then s.timeBaseTick else s)

end Sys2Proof.Machine
end

