-- ==== Sys2Proof/Machine/Rejection.lean ====
section
/-! DEFINITION. Zone lookups (R75 to R81), the rejection stage (R108 to R114, R117 to R119), and the rows of the
typing guard and the linger deadline (R115, R116, R120). -/

namespace Sys2Proof.Machine

/-! ## Zones -/

/-- The policy of an entry in a posture's column (R75). -/
def ZoneEntry.policy (e : ZoneEntry) : Posture → ZonePolicy
  | .laptop => e.laptop
  | .stand => e.stand
  | .tent => e.tent
  | .tablet => e.tablet
  | .closed => e.closed

/-- The entry's rectangle, clipped at use, contains the point (R75, R77). -/
def ZoneEntry.contains (g : Geometry) (e : ZoneEntry) (x y : Int) : Bool :=
  (e.x0 : Int) ≤ x && x ≤ min (e.x1 : Int) (g.wx - 1) && (e.y0 : Int) ≤ y && y ≤ min (e.y1 : Int) (g.wy - 1)

/-- A zone lookup: the lowest used entry that contains the point, with its policy; NONE with OPEN otherwise
(R78). -/
def zoneLookup (g : Geometry) (zones : List ZoneEntry) (p : Posture) (x y : Int) : Option Nat × ZonePolicy :=
  match zones.findIdx? (fun e => e.used && e.contains g x y) with
  | some index =>
    match zones[index]? with
    | some e => (some index, e.policy p)
    | none => (none, .openZone)
  | none => (none, .openZone)

/-! ## The pen's presence and the exclusion rectangle -/

/-- The centre of the exclusion rectangle when the pen is present (R118). -/
def penCentre (pen : PenRecord) (linger : Option Linger) : Option (Int × Int) :=
  if pen.state != .outOfRange then some (pen.x, pen.y) else linger.map (fun l => (l.x, l.y))

/-- The point lies in the exclusion rectangle around a centre, its sides clipped to the surface (R119). -/
def inExclusion (g : Geometry) (b : PanelRejection) (cx cy x y : Int) : Bool :=
  let x0 := match b.handedness with
    | .right => cx - b.back
    | .left => cx - b.ahead
  let x1 := match b.handedness with
    | .right => cx + b.ahead
    | .left => cx + b.back
  max 0 x0 ≤ x && x ≤ min x1 (g.wx - 1) && max 0 (cy - b.above) ≤ y && y ≤ min (cy + b.below) (g.wy - 1)

/-! ## The rejection stage -/

/-- The inputs of a rejection stage, each read once (R109). -/
structure RejectionInputs where
  surface : SurfaceId
  geometry : Geometry
  zones : List ZoneEntry
  confirmFrames : Nat
  posture : Posture
  postureMasked : Bool
  guardRunning : Bool
  pad : PadRejection
  panel : PanelRejection
  penCentre : Option (Int × Int)
  deriving DecidableEq, Repr

/-- One reading of the inputs (R109). -/
def State.rejectionInputs (s : State) (i : SurfaceId) : RejectionInputs :=
  let v := s.surface i
  { surface := i, geometry := v.geometry, zones := v.zoneMap, confirmFrames := v.detection.confirmFrames,
    posture := s.posture, postureMasked := !v.reporting.holds s.posture, guardRunning := s.guard.isSome,
    pad := s.padRejection, panel := s.panelRejection, penCentre := penCentre s.pen s.linger }

/-- The policy a lookup answers at a point. -/
def RejectionInputs.policyAt (q : RejectionInputs) (x y : Int) : ZonePolicy :=
  (zoneLookup q.geometry q.zones q.posture x y).2

/-- The pen's presence suppresses a contact at a point of PANEL (R117). -/
def RejectionInputs.penSuppresses (q : RejectionInputs) (x y : Int) : Bool :=
  match q.surface, q.penCentre with
  | .panel, some (cx, cy) =>
    match q.panel.penMode with
    | .off => false
    | .area => inExclusion q.geometry q.panel cx cy x y
    | .all => true
  | _, _ => false

/-- The outcomes of the promotion checks (R96). -/
inductive Promotion where
  | toActive
  | toSuppressed (reason : Reason)
  | retained
  deriving DecidableEq, Repr

/-- A HESITANT admission zone (R111); on PANEL it acts as OPEN. -/
def RejectionInputs.hesitant (q : RejectionInputs) (k : Slot) : Promotion :=
  match q.surface with
  | .panel => .toActive
  | .pad =>
    if q.pad.hesitantTravel ≤ distance k.firstX k.firstY k.x k.y then .toActive
    else if max q.confirmFrames q.pad.hesitantFrames ≤ k.age then .toSuppressed .byZone
    else .retained

/-- The promotion checks in their order (R110). -/
def RejectionInputs.promotion (q : RejectionInputs) (k : Slot) : Promotion :=
  let admissionPolicy := q.policyAt k.firstX k.firstY
  if k.mark then .toSuppressed .byClass
  else if q.postureMasked then .toSuppressed .byPosture
  else if admissionPolicy == .blockNew || admissionPolicy == .blockAll then .toSuppressed .byZone
  else if q.surface == .pad && q.guardRunning then .toSuppressed .byTyping
  else if q.penSuppresses k.firstX k.firstY then .toSuppressed .byPen
  else if admissionPolicy == .hesitant then q.hesitant k
  else .toActive

/-- The promotion pass on one slot (R96, R108). -/
def RejectionInputs.promote (q : RejectionInputs) (k : Slot) : Slot :=
  if k.surface == q.surface && k.state == .tentative && q.confirmFrames ≤ k.age then
    match q.promotion k with
    | .toActive => { k with state := .active }
    | .toSuppressed reason => { k with state := .suppressed, reason := some reason }
    | .retained => k
  else k

/-- The per-frame checks in their order; the first that applies gives the reason (R113). -/
def RejectionInputs.perFrame (q : RejectionInputs) (k : Slot) : Option Reason :=
  if k.mark then some .byClass
  else if q.policyAt k.x k.y == .blockAll then some .byZone
  else if q.postureMasked then some .byPosture
  else if q.penSuppresses k.x k.y then some .byPen
  else none

/-- The per-frame pass on one slot (R97, R113). -/
def RejectionInputs.check (q : RejectionInputs) (k : Slot) : Slot :=
  if k.surface == q.surface && (k.state == .active || k.state == .held) then
    match q.perFrame k with
    | some reason => k.suppress reason
    | none => k
  else k

/-- The rejection stage: the promotion pass, then the per-frame pass (R108). -/
def RejectionInputs.stage (q : RejectionInputs) (slots : List Slot) : List Slot :=
  (slots.map q.promote).map q.check

/-! ## The typing guard and the linger deadline -/

/-- A KEY_ACTIVITY notice without fault (R115). -/
def State.keyActivity (s : State) : State :=
  if s.padRejectionReady && s.padRejection.guardTime != 0 then { s with guard := some s.padRejection.guardTime } else s

/-- TYPING_GUARD_EXPIRY: a running guard whose time remaining has reached 0 stops (R116). -/
def State.typingGuardExpiry (s : State) : State := if s.guard == some 0 then { s with guard := none } else s

/-- The time remaining before the linger deadline; 0 once it has been reached (R120). -/
def Linger.remaining (l : Linger) (now : BitVec 32) : Nat :=
  let left := (l.deadline - now).toNat
  if left ≤ 2000 then left else 0

/-- LINGER_DEADLINE: when the deadline has been reached the linger state becomes absent (R120). -/
def State.lingerDeadline (s : State) : State :=
  match s.linger with
  | some l => if l.remaining s.time == 0 then s.withLinger none else s
  | none => s

/-- The row TYPING_GUARD_EXPIRY. -/
def execTypingGuardExpiry (s : State) : Host.Outcome State Fault Refusal :=
  .next (if s.started then s.typingGuardExpiry else s)

/-- The row LINGER_DEADLINE. -/
def execLingerDeadline (s : State) : Host.Outcome State Fault Refusal :=
  .next (if s.started then s.lingerDeadline else s)

end Sys2Proof.Machine
end

