-- ==== Sys2Proof/Machine/Status.lean ====
section
/-! DEFINITION. The data READ_STATUS returns, section by section, each in R180's order by R187's rules (where those
leave a layout open, notes/assumptions/12.md). -/

namespace Sys2Proof.Machine

/-- The ready mark of the surface's REJECTION block (R122). -/
def State.rejectionReady (s : State) : SurfaceId → Bool
  | .pad => s.padRejectionReady
  | .panel => s.panelRejectionReady

/-- PRESSURE_CURVE is ready when all nine points are loaded (R138). -/
def State.curveReady (s : State) : Bool := s.curve.all (·.loaded)

/-- The ready marks of a surface's blocks, then of its tables (R180). -/
def State.readyMarks (s : State) (i : SurfaceId) : List Bool :=
  let v := s.surface i
  match i with
  | .pad =>
    [v.geometryReady, v.detectionReady, v.reportingReady, s.padRejectionReady, v.lineMapLoaded, v.classReady,
      v.zoneReady, s.gestureReady]
  | .panel =>
    [v.geometryReady, v.detectionReady, v.reportingReady, s.panelRejectionReady, s.penBlockReady, v.lineMapLoaded,
      v.classReady, v.zoneReady, s.curveReady]

/-- Marks gathered into as many flag bytes as they need (R187). -/
def markBytes (marks : List Bool) : List Byte := (piecesOf 8 marks.length marks).map flagByte

/-- One surface's part of SURFACES; an absent PANEL shows ABSENT (4) and zeros (R180). -/
def State.surfaceStatus (s : State) (i : SurfaceId) : List Byte :=
  let v := s.surface i
  if s.present i then
    [enumByte surfaceStateOrder v.status, flagByte [v.baselineValid], byteOf v.collected, byteOf v.anomalyCount]
      ++ markBytes (s.readyMarks i)
  else [4, 0, 0, 0] ++ markBytes ((s.readyMarks i).map (fun _ => false))

/-- SURFACES (R180). Posture, guard time and linger time are sent once, after the parts of both surfaces
(DESIGN CHOICE, notes/assumptions/12.md). -/
def State.surfacesStatus (s : State) : List Byte :=
  s.surfaceStatus .pad ++ s.surfaceStatus .panel ++ [enumByte postureOrder s.posture] ++ le16 (s.guard.getD 0)
    ++ le16 (match s.linger with
      | some l => l.remaining s.time
      | none => 0)

/-- PEN (R126); with PANEL absent every number is 0 and every enumeration 255 (R180). -/
def State.penStatus (s : State) : List Byte :=
  let p := s.pen
  if s.straps.panelEn then
    [enumByte penStateOrder p.state] ++ le16 p.x ++ le16 p.y ++ [flagByte [p.coasting], byteOf p.missing]
      ++ le16 p.raw ++ [flagByte [p.tip, p.barrel, p.eraser, p.batteryLow], byteOf p.tag,
        enumByte qualityOrder p.quality, byteOf p.dataAge, p.lastSequence]
  else [255, 0, 0, 0, 0, 0, 0, 0, 0, 0, 0, 255, 0, 0]

/-- A committed gesture, or its absence (R145, R187). -/
def committedStatus : Option Committed → List Byte
  | some c => [enumByte gestureKindOrder c.kind, byteOf c.code] ++ le16 c.x ++ le16 c.y ++ le16 c.spread
  | none => [255, 0] ++ le16 0 ++ le16 0 ++ le16 0

/-- A pending END, or its absence (R145, R187). -/
def pendingEndStatus : Option PendingEnd → List Byte
  | some e => [byteOf e.number, enumByte endReasonOrder e.reason]
  | none => [0, 255]

/-- GESTURE (R145). -/
def State.gestureStatus (s : State) : List Byte :=
  let g := s.gesture
  [enumByte engineStateOrder g.state, byteOf g.number, byteOf g.members.length]
    ++ g.members.flatMap (fun m => [byteOf m.1, byteOf m.2])
    ++ [byteOf g.hold] ++ le16 g.anchorX ++ le16 g.anchorY ++ le16 g.anchorSpread ++ le32 g.anchorTime
    ++ le32 g.episodeStart ++ [byteOf g.greatest] ++ le16 g.fingerTravel ++ [flagByte [g.tapEligible]]
    ++ committedStatus g.committed ++ pendingEndStatus g.pendingEnd ++ [flagByte [g.switchSeen]]

/-- One slot: 14 bytes (R107, R189). -/
def Slot.status (k : Slot) : List Byte :=
  [enumByte slotStateOrder k.state, enumByte surfaceOrder k.surface, byteOf k.contact, enumByte touchOrder k.touch,
    flagByte [k.mark, k.announced, k.closed], enumByteOpt reasonOrder k.reason,
    enumByteOpt entryStateOrder (k.closing.map (·.kind.entryState))]
    ++ le16 k.age ++ [byteOf k.missing] ++ le16 k.x ++ le16 k.y

/-- SLOTS (R107, R189). -/
def State.slotsStatus (s : State) : List Byte := s.slots.flatMap Slot.status ++ [byteOf s.nextContact]

/-- The fault record, or its absence (R181, R187). -/
def faultStatus : Option FaultRecord → List Byte
  | some f =>
    [enumByte faultKindOrder f.kind, enumByte faultSourceOrder f.source, f.sequence] ++ le16 f.detail
      ++ stamp f.timestamp ++ [flagByte [f.more]]
  | none => [255, 255, 0, 0, 0, 0, 0, 0]

/-- FAULT. -/
def State.faultSection (s : State) : List Byte :=
  faultStatus s.fault ++ le16 s.queueBlock.captureMask.toNat
    ++ [byteOf s.depth, byteOf s.generalCount, byteOf s.responseCount]

/-- One link's counters in R180's order. -/
def LinkCounters.bytes (c : LinkCounters) : List Byte :=
  [c.crcErrors, c.lengthErrors, c.seqGaps, c.overruns, c.timeouts, c.regionOverflows, c.tableFull,
    c.autoRebases].flatMap (fun n => le16 n)

/-- COUNTERS. -/
def State.countersStatus (s : State) : List Byte :=
  s.pad.counters.bytes ++ s.panel.counters.bytes
    ++ [s.penCorrected, s.penUncorrectable, s.mergedCount, s.deferredCount, s.droppedCount, s.packetCrcCount,
        s.refusedCount].flatMap (fun n => le16 n)

/-- A section's data (R180). -/
def State.statusData (s : State) : StatusSection → List Byte
  | .surfaces => s.surfacesStatus
  | .pen => s.penStatus
  | .gesture => s.gestureStatus
  | .slots => s.slotsStatus
  | .fault => s.faultSection
  | .counters => s.countersStatus

end Sys2Proof.Machine
end

