-- ==== Sys2Proof/Machine/Management.lean ====
section
/-! DEFINITION. The management unit: the execution of each request at the head of the buffer (R4, R10, R12, R28,
R175 to R183). -/

namespace Sys2Proof.Machine

/-! ## The head of the buffer (R175, R176) -/

/-- The request of a code at the head is checked, waited for, or executed (R175, R176). A row whose request is not at
the head changes nothing. -/
def State.runHead (s : State) (code : Nat) (run : State → Request → State) : State :=
  match s.buffer with
  | [] => s
  | r :: _ =>
    if !s.started || r.code.toNat != code then s
    else match requestCheck s.straps.panelEn r with
      | some rc => s.answer r rc []
      | none => if s.headWaits then s else run s r

/-- UNKNOWN_REQUEST: the code is echoed in the RESPONSE (R175, R189). -/
def State.unknownHead (s : State) : State :=
  match s.buffer with
  | [] => s
  | r :: _ => if !s.started || r.known then s else s.answer r .unknownRequest []

/-! ## DESCRIBE (R179) -/

/-- The capacities of R179, in its order. -/
def capacities : List Byte := [16, 64, 59, 4, 24, 16, 8, 16, 128] ++ le16 3072

/-- DESCRIBE's data (R179, R189). -/
def State.description (s : State) : List Byte :=
  le16 2240 ++ [1, flagByte [true, s.straps.panelEn], s.straps.refsel.setWidth 8, flagByte [s.straps.linkPhase]]
    ++ capacities

def State.runDescribe (s : State) (r : Request) : State := s.answer r .ok s.description

/-! ## START, STOP, REBASE (R3, R4, R10, R12) -/

/-- An item, when it is not ready. -/
def itemIf (missing : Bool) (item : ReadyItem) : List ReadyItem := if missing then [item] else []

/-- The NOT_READY list of a surface, in R4's order (R3, R4, R31). -/
def State.notReady (s : State) (i : SurfaceId) : List ReadyItem :=
  let v := s.surface i
  let tested := v.geometryReady && v.lineMapLoaded
  itemIf (!v.geometryReady) .geometry ++ itemIf (!tested) .lineMap ++ itemIf (!v.detectionReady) .detection
    ++ itemIf (!v.reportingReady) .reporting ++ itemIf (!s.rejectionReady i) .rejection
    ++ itemIf (!v.classReady) .classTable ++ itemIf (!v.zoneReady) .zone
    ++ itemIf (i == .pad && v.reportingReady && v.reporting.hasGestures && !s.gestureReady) .gesture
    ++ itemIf (i == .panel && !s.penBlockReady) .pen ++ itemIf (i == .panel && !s.curveReady) .pressureCurve
    ++ itemIf (tested && v.mapConflict) .mapConflict ++ itemIf (tested && v.deadLimit) .deadLimit

/-- The surface as START leaves it (R4). -/
def Surface.startedUp (v : Surface) : Surface :=
  { v.acquiring with expectedImage := none, expectedPen := none, timer := some v.detection.frameTimeout, lastGood := 0 }

/-- START after its checks (R4). -/
def State.runStart (s : State) (r : Request) : State :=
  let v := s.surface r.surface
  if v.status != .stopped then s.answer r .surfaceRunning []
  else if s.notReady r.surface != [] then s.answer r .notReady ((s.notReady r.surface).map (enumByte readyItemOrder))
  else (s.withSurface r.surface v.startedUp).answer r .ok []

/-- STOP after its checks (R12). -/
def State.runStop (s : State) (r : Request) : State :=
  if (s.surface r.surface).status == .stopped then s.answer r .ok []
  else (s.endSurface r.surface .stopped).answer r .ok []

/-- REBASE after its checks, with no IMAGE frame in flight (R10). -/
def State.runRebase (s : State) (r : Request) : State :=
  match (s.surface r.surface).status with
  | .acquiring => (s.rebase r.surface).answer r .ok []
  | .running => (s.rebase r.surface).answer r .ok []
  | .stopped => s.answer r .ok []
  | .stalled => s.answer r .ok []

/-! ## Tables (R30, R70, R76, R138, R147, R178) -/

/-- The start index of a LOAD_TABLE or READ_TABLE. -/
def Request.start (r : Request) : Nat := byteAt r.payload 2

/-- LOAD_TABLE of LINE_MAP (R30). -/
def State.loadLineMap (s : State) (r : Request) (entries : List (List Byte)) : State :=
  let v := s.surface r.surface
  if v.status != .stopped then s.answer r .surfaceRunning []
  else if 128 < r.start + entries.length then s.answer r .badIndex []
  else
    (s.withSurface r.surface
      { v with lineMap := writeFrom r.start (entries.map LineEntry.ofBytes) v.lineMap, lineMapLoaded := true }).answer
      r .ok []

/-- LOAD_TABLE of CLASS (R70). -/
def State.loadClass (s : State) (r : Request) (entries : List (List Byte)) : State :=
  let v := s.surface r.surface
  if 16 < r.start + entries.length then s.answer r .badIndex []
  else match entries.mapM ClassEntry.ofBytes with
    | none => s.answer r .badValue []
    | some es =>
      (s.withSurface r.surface { v with classTable := writeFrom r.start es v.classTable, classReady := true }).answer r
        .ok []

/-- LOAD_TABLE of ZONE (R76). -/
def State.loadZone (s : State) (r : Request) (entries : List (List Byte)) : State :=
  let v := s.surface r.surface
  if 8 < r.start + entries.length then s.answer r .badIndex []
  else match entries.mapM ZoneEntry.ofBytes with
    | none => s.answer r .badValue []
    | some es =>
      (s.withSurface r.surface { v with zoneMap := writeFrom r.start es v.zoneMap, zoneReady := true }).answer r .ok []

/-- LOAD_TABLE of GESTURE (R147). -/
def State.loadGesture (s : State) (r : Request) (entries : List (List Byte)) : State :=
  if 16 < r.start + entries.length then s.answer r .badIndex []
  else match entries.mapM GestureEntry.ofBytes with
    | none => s.answer r .badValue []
    | some es =>
      { s with gestureTable := writeFrom r.start es s.gestureTable, gestureReady := true }.answer r .ok []

/-- LOAD_TABLE of PRESSURE_CURVE (R138). -/
def State.loadCurve (s : State) (r : Request) (entries : List (List Byte)) : State :=
  let points := entries.map (fun e => ({ value := word16At e 0, loaded := true } : CurvePoint))
  let curve := writeFrom r.start points s.curve
  if 9 < r.start + entries.length then s.answer r .badIndex []
  else if points.any (fun p => 4095 < p.value) then s.answer r .badValue []
  else if curveDecreases curve then s.answer r .badValue []
  else { s with curve := curve }.answer r .ok []

/-- LOAD_TABLE after its checks (R178). -/
def State.runLoadTable (s : State) (r : Request) : State :=
  match r.table with
  | none => s.answer r .badTable []
  | some .lineMap => s.loadLineMap r (r.entries .lineMap)
  | some .classTable => s.loadClass r (r.entries .classTable)
  | some .zone => s.loadZone r (r.entries .zone)
  | some .gesture => s.loadGesture r (r.entries .gesture)
  | some .pressureCurve => s.loadCurve r (r.entries .pressureCurve)

/-- The entries of a table as held, each in its layout (R190). -/
def State.tableEntries (s : State) (t : TableId) (i : SurfaceId) : List (List Byte) :=
  match t with
  | .lineMap => (s.surface i).lineMap.map LineEntry.bytes
  | .classTable => (s.surface i).classTable.map ClassEntry.bytes
  | .zone => (s.surface i).zoneMap.map ZoneEntry.bytes
  | .gesture => s.gestureTable.map GestureEntry.bytes
  | .pressureCurve => s.curve.map (fun p => le16 p.value)

/-- The loaded or ready mark of a table (R178). -/
def State.tableMark (s : State) (t : TableId) (i : SurfaceId) : Bool :=
  match t with
  | .lineMap => (s.surface i).lineMapLoaded
  | .classTable => (s.surface i).classReady
  | .zone => (s.surface i).zoneReady
  | .gesture => s.gestureReady
  | .pressureCurve => s.curveReady

/-- READ_TABLE's data (R189). -/
def State.tableData (s : State) (t : TableId) (i : SurfaceId) (start count : Nat) : List Byte :=
  [enumByte tableOrder t, enumByte surfaceOrder i, byteOf start, byteOf count, flagByte [s.tableMark t i]]
    ++ (if t == .pressureCurve then
          le16 ((s.curve.zipIdx).foldl (fun m (p, k) => m + (if p.loaded then 2 ^ k else 0)) 0 : Nat)
        else [])
    ++ (((s.tableEntries t i).drop start).take count).flatten

/-- READ_TABLE after its checks (R178); a count of 0 is BAD_VALUE (DEDUCED, notes/assumptions/14.md). -/
def State.runReadTable (s : State) (r : Request) : State :=
  match r.table with
  | none => s.answer r .badTable []
  | some t =>
    let count := byteAt r.payload 3
    if !hasTable t r.surface then s.answer r .badTable []
    else if tableSize t < r.start + count || 240 < count * entrySize t then s.answer r .badIndex []
    else if count == 0 then s.answer r .badValue []
    else s.answer r .ok (s.tableData t r.surface r.start count)

/-! ## Parameter blocks (R177) -/

/-- OK, or CLAMPED when a value was brought into range. -/
def clampedCode (changed : Bool) : ResponseCode := if changed then .clamped else .ok

/-- SET_PARAMS of GEOMETRY: the line map is cleared (R30), and the images take the new size. -/
def State.setGeometry (s : State) (r : Request) : State :=
  let v := s.surface r.surface
  if v.status != .stopped then s.answer r .surfaceRunning []
  else match Geometry.ofBytes r.blockBytes with
    | none => s.answer r .badValue []
    | some g =>
      (s.withSurface r.surface
        { v with geometry := g, geometryReady := true, lineMap := clearedLineMap, lineMapLoaded := false,
                 baseline := g.zeroImage, sums := g.zeroImage }).answer r .ok []

/-- SET_PARAMS of DETECTION (R177). -/
def State.setDetection (s : State) (r : Request) : State :=
  let v := s.surface r.surface
  let sent := Detection.ofBytes r.blockBytes
  if v.status != .stopped then s.answer r .surfaceRunning []
  else if sent.clamped.touchThreshold ≤ sent.clamped.noiseFloor then s.answer r .badValue []
  else
    (s.withSurface r.surface { v with detection := sent.clamped, detectionReady := true }).answer r
      (clampedCode (sent.clamped != sent)) []

/-- SET_PARAMS of REPORTING; a change of PAD's mode away from gestures cancels (R158, R177). -/
def State.setReporting (s : State) (r : Request) : State :=
  let v := s.surface r.surface
  match Reporting.ofBytes r.surface r.blockBytes with
  | none => s.answer r .badValue []
  | some sent =>
    let block := sent.clamped r.surface
    let s1 := s.withSurface r.surface { v with reporting := block, reportingReady := true }
    (if r.surface == .pad && v.reporting.hasGestures && !block.hasGestures then s1.cancelOutside else s1).answer r
      (clampedCode (block != sent)) []

/-- SET_PARAMS of PAD's REJECTION; guard_time 0 stops the guard (R116, R122). -/
def State.setPadRejection (s : State) (r : Request) : State :=
  let sent := PadRejection.ofBytes r.blockBytes
  { s with
    padRejection := sent.clamped, padRejectionReady := true,
    guard := if sent.clamped.guardTime == 0 then none else s.guard }.answer r (clampedCode (sent.clamped != sent)) []

/-- SET_PARAMS of PANEL's REJECTION (R122). -/
def State.setPanelRejection (s : State) (r : Request) : State :=
  match PanelRejection.ofBytes r.blockBytes with
  | none => s.answer r .badValue []
  | some sent =>
    { s with panelRejection := sent.clamped, panelRejectionReady := true }.answer r
      (clampedCode (sent.clamped != sent)) []

/-- SET_PARAMS of PEN (R142). -/
def State.setPen (s : State) (r : Request) : State :=
  let sent := PenBlock.ofBytes r.blockBytes
  { s with penBlock := sent.clamped, penBlockReady := true }.answer r (clampedCode (sent.clamped != sent)) []

/-- SET_PARAMS of QUEUE (R173, R177). -/
def State.setQueue (s : State) (r : Request) : State :=
  let sent := QueueBlock.ofBytes r.blockBytes
  (State.refreshAttn { s with queueBlock := sent.clamped }).answer r (clampedCode (sent.clamped != sent)) []

/-- SET_PARAMS after its checks (R177). -/
def State.runSetParams (s : State) (r : Request) : State :=
  match r.block with
  | none => s.answer r .badTable []
  | some .geometry => s.setGeometry r
  | some .detection => s.setDetection r
  | some .reporting => s.setReporting r
  | some .rejection =>
    match r.surface with
    | .pad => s.setPadRejection r
    | .panel => s.setPanelRejection r
  | some .pen => s.setPen r
  | some .queue => s.setQueue r

/-- A block as held, in its layout (R190). -/
def State.blockData (s : State) (b : BlockId) (i : SurfaceId) : List Byte :=
  match b with
  | .geometry => (s.surface i).geometry.bytes
  | .detection => (s.surface i).detection.bytes
  | .reporting => (s.surface i).reporting.bytes
  | .rejection =>
    match i with
    | .pad => s.padRejection.bytes
    | .panel => s.panelRejection.bytes
  | .pen => s.penBlock.bytes
  | .queue => s.queueBlock.bytes

/-- A block's ready mark (R3); QUEUE's is not stated, so it is free (notes/assumptions/13.md). -/
def State.blockMark (s : State) (b : BlockId) (i : SurfaceId) : Bool :=
  match b with
  | .geometry => (s.surface i).geometryReady
  | .detection => (s.surface i).detectionReady
  | .reporting => (s.surface i).reportingReady
  | .rejection => s.rejectionReady i
  | .pen => s.penBlockReady
  | .queue => Config.freeFlag s.free

/-- READ_PARAMS after its checks (R177, R189); the surface byte is returned as it was sent. -/
def State.runReadParams (s : State) (r : Request) : State :=
  match r.block with
  | none => s.answer r .badTable []
  | some b =>
    if !hasBlock b r.surface then s.answer r .badTable []
    else
      s.withFreeRead.answer r .ok
        ([enumByte blockOrder b, r.payload.getD 1 0, flagByte [s.blockMark b r.surface]] ++ s.blockData b r.surface)

/-! ## Status and the fault record (R180, R182) -/

/-- READ_STATUS after its checks (R180). -/
def State.runReadStatus (s : State) (r : Request) : State :=
  match valueIn statusSectionOrder (byteAt r.payload 0) with
  | none => s.answer r .badValue []
  | some x => s.answer r .ok (s.statusData x)

/-- Every counter of R180's COUNTERS section at 0, on both links (R182). -/
def State.clearCounters (s : State) : State :=
  { s with
    pad := { s.pad with counters := .zero }, panel := { s.panel with counters := .zero }, penCorrected := 0,
    penUncorrectable := 0, mergedCount := 0, deferredCount := 0, droppedCount := 0, packetCrcCount := 0,
    refusedCount := 0 }

/-- CLEAR_FAULT after its checks (R182). -/
def State.runClearFault (s : State) (r : Request) : State :=
  let s1 := s.withFault none
  (if (r.payload.getD 0 0).getLsbD 0 then s1.clearCounters else s1).answer r .ok []

/-! ## CAPTURE and READ_CAPTURE (R51, R183) -/

/-- The content a BASELINE capture takes (R51). -/
def State.baselineContent (s : State) (i : SurfaceId) : CaptureBuffer :=
  let v := s.surface i
  { surface := i, kind := .baseline, driveLines := v.geometry.driveLines, senseLines := v.geometry.senseLines,
    sequence := 0, arrival := 0, valid := v.baselineValid, image := v.baseline }

/-- A RAW or DELTA capture becomes pending and leaves the buffer without a RESPONSE (R172, R183). -/
def State.holdCapture (s : State) (c : PendingCapture) : State :=
  (s.popHead.withPendingCapture (some c)).takeFrames

/-- CAPTURE after its checks (R183). -/
def State.runCapture (s : State) (r : Request) : State :=
  let status := (s.surface r.surface).status
  match valueIn captureKindOrder (byteAt r.payload 1) with
  | none => s.answer r .badValue []
  | some kind =>
    if s.pendingCapture.isSome then s.answer r .busy []
    else if status != .acquiring && status != .running then s.answer r .surfaceStopped []
    else if kind == .baseline then
      (s.withCaptureBuffer (some (s.baselineContent r.surface))).answer r .ok
        (s.baselineContent r.surface).responseData
    else s.holdCapture { tag := r.tag, surface := r.surface, kind := kind }

/-- The bytes of READ_CAPTURE for a piece of the buffer (R183, R189). -/
def CaptureBuffer.piece (c : CaptureBuffer) (offset count : Nat) : List Byte :=
  [byteOf c.driveLines, byteOf c.senseLines, c.sequence,
    byteOf (codeIn surfaceOrder c.surface + 2 * codeIn captureKindOrder c.kind + 8 * (if c.valid then 1 else 0))]
    ++ le16 offset ++ [byteOf count] ++ ((c.image.flatten.drop offset).take count).flatMap le16

/-- READ_CAPTURE after its checks (R183). -/
def State.runReadCapture (s : State) (r : Request) : State :=
  let offset := word16At r.payload 0
  let count := byteAt r.payload 2
  match s.captureBuffer with
  | none => s.answer r .notReady []
  | some c =>
    let size := c.driveLines * c.senseLines
    let most := min 120 (size - offset)
    if size ≤ offset then s.answer r .badIndex []
    else if count == 0 then s.answer r .badValue []
    else if most < count then s.answer r .clamped (c.piece offset most)
    else s.answer r .ok (c.piece offset count)

/-! ## RELAY (R28) -/

/-- RELAY after its checks (R28). -/
def State.runRelay (s : State) (r : Request) : State :=
  let v := s.surface r.surface
  if v.relay.isSome then s.answer r .busy []
  else (s.withSurface r.surface { v with relay := some (r.payload.drop 1) }).answer r .ok []

/-! ## The rows -/

/-- The row UNKNOWN_REQUEST. -/
def execUnknownRequest (s : State) : Host.Outcome State Fault Refusal := .next s.unknownHead

/-- The row DESCRIBE. -/
def execDescribe (s : State) : Host.Outcome State Fault Refusal := .next (s.runHead 1 State.runDescribe)

/-- The row START. -/
def execStart (s : State) : Host.Outcome State Fault Refusal := .next (s.runHead 2 State.runStart)

/-- The row STOP. -/
def execStop (s : State) : Host.Outcome State Fault Refusal := .next (s.runHead 3 State.runStop)

/-- The row REBASE. -/
def execRebase (s : State) : Host.Outcome State Fault Refusal := .next (s.runHead 4 State.runRebase)

/-- The row LOAD_TABLE. -/
def execLoadTable (s : State) : Host.Outcome State Fault Refusal := .next (s.runHead 5 State.runLoadTable)

/-- The row READ_TABLE. -/
def execReadTable (s : State) : Host.Outcome State Fault Refusal := .next (s.runHead 6 State.runReadTable)

/-- The row SET_PARAMS. -/
def execSetParams (s : State) : Host.Outcome State Fault Refusal := .next (s.runHead 7 State.runSetParams)

/-- The row READ_PARAMS. -/
def execReadParams (s : State) : Host.Outcome State Fault Refusal := .next (s.runHead 8 State.runReadParams)

/-- The row READ_STATUS. -/
def execReadStatus (s : State) : Host.Outcome State Fault Refusal := .next (s.runHead 9 State.runReadStatus)

/-- The row CLEAR_FAULT. -/
def execClearFault (s : State) : Host.Outcome State Fault Refusal := .next (s.runHead 10 State.runClearFault)

/-- The row CAPTURE. -/
def execCapture (s : State) : Host.Outcome State Fault Refusal := .next (s.runHead 11 State.runCapture)

/-- The row READ_CAPTURE. -/
def execReadCapture (s : State) : Host.Outcome State Fault Refusal := .next (s.runHead 12 State.runReadCapture)

/-- The row RELAY. -/
def execRelay (s : State) : Host.Outcome State Fault Refusal := .next (s.runHead 13 State.runRelay)

end Sys2Proof.Machine
end

