-- ==== Sys2Proof/Machine/Regions.lean ====
section
/-! DEFINITION. Region extraction, pen-shadow removal and classification (R54 to R74), and the REGION_STAGE. -/

namespace Sys2Proof.Machine

/-- An on node: its lines and its delta (R55). -/
structure Node where
  d : Nat
  s : Nat
  delta : Int
  deriving DecidableEq, Repr

/-- The on nodes in scan order (R55). -/
def onNodes (threshold : Nat) (image : Image) : List Node :=
  (image.zipIdx).flatMap (fun (row, d) =>
    (row.zipIdx).filterMap (fun (v, s) => if (threshold : Int) ≤ v then some { d := d, s := s, delta := v } else none))

/-- Two different on nodes that share a drive line, a sense line or a corner (R56). -/
def Node.adjacent (a b : Node) : Bool :=
  !(a.d == b.d && a.s == b.s) && a.d ≤ b.d + 1 && b.d ≤ a.d + 1 && a.s ≤ b.s + 1 && b.s ≤ a.s + 1

/-- Grow a component by the nodes adjacent to it until none is left (R56); answers it and the nodes outside it. The
first argument bounds the rounds. -/
def growComponent : Nat → List Node → List Node → List Node × List Node
  | 0, component, rest => (component, rest)
  | fuel + 1, component, rest =>
    let near := rest.filter (fun n => component.any n.adjacent)
    let far := rest.filter (fun n => !component.any n.adjacent)
    if near.isEmpty then (component, rest) else growComponent fuel (component ++ near) far

/-- The components in the scan order of their first nodes (R57). The first argument bounds their number. -/
def componentsOf : Nat → List Node → List (List Node)
  | 0, _ => []
  | _ + 1, [] => []
  | fuel + 1, first :: rest =>
    let (component, far) := growComponent rest.length [first] rest
    component :: componentsOf fuel far

/-- The components of a delta image (R55 to R57). -/
def components (threshold : Nat) (image : Image) : List (List Node) :=
  let nodes := onNodes threshold image
  componentsOf nodes.length nodes

def minOf (f : Node → Nat) (first : Node) (rest : List Node) : Nat := rest.foldl (fun m n => min m (f n)) (f first)

def maxOf (f : Node → Nat) (first : Node) (rest : List Node) : Nat := rest.foldl (fun m n => max m (f n)) (f first)

/-- The measurements of a component given by its first node and the others (R59 to R63), not yet classified. -/
def measure (g : Geometry) (det : Detection) (first : Node) (rest : List Node) : Region :=
  let nodes := first :: rest
  let sum := total (nodes.map (·.delta))
  let weightOf := fun (n : Node) => n.delta - det.noiseFloor
  let weight := total (nodes.map weightOf)
  let driveFirst := minOf (·.d) first rest
  let driveLast := maxOf (·.d) first rest
  let senseFirst := minOf (·.s) first rest
  let senseLast := maxOf (·.s) first rest
  { area := nodes.length
    peak := rest.foldl (fun m n => max m n.delta) first.delta
    sum := sum
    weight := weight
    driveFirst := driveFirst
    driveLast := driveLast
    senseFirst := senseFirst
    senseLast := senseLast
    width := senseLast - senseFirst + 1
    height := driveLast - driveFirst + 1
    density := sum / nodes.length
    edge := driveFirst == 0 || driveLast + 1 == g.driveLines || senseFirst == 0 || senseLast + 1 == g.senseLines
    x := rounded (total (nodes.map (fun n => weightOf n * (64 * n.s + 32)))) weight
    y := rounded (total (nodes.map (fun n => weightOf n * (64 * n.d + 32)))) weight
    touch := .unknown }

/-- The region of a component; an empty component does not arise (R56). -/
def regionOf (g : Geometry) (det : Detection) : List Node → Option Region
  | [] => none
  | first :: rest => some (measure g det first rest)

/-- The most regions a list holds (R58). -/
def regionLimit : Nat := 24

/-- Pen-shadow removal (R65): with the pen in CONTACT, regions within the radius of its position are removed. -/
def removeShadow (pen : PenRecord) (radius : Nat) (regions : List Region) : List Region :=
  if pen.state == .contact then regions.filter (fun r => radius < distance r.x r.y pen.x pen.y) else regions

/-! ## Classification (R73, R74) -/

/-- A bound of R73, both ends included. -/
def bounded (lo hi : Nat) (v : Int) : Bool := (lo : Int) ≤ v && v ≤ (hi : Int)

/-- A region matches an entry (R73). -/
def ClassEntry.accepts (e : ClassEntry) (r : Region) : Bool :=
  e.used && bounded e.areaMin e.areaMax r.area && bounded e.peakMin e.peakMax r.peak
    && bounded e.widthMin e.widthMax r.width && bounded e.heightMin e.heightMax r.height
    && bounded e.densityMin e.densityMax r.density
    && (match e.edge with
        | .any => true
        | .edge => r.edge
        | .interior => !r.edge)

/-- The class of a region: the result of the lowest entry it matches, or UNKNOWN (R74). -/
def classify (table : List ClassEntry) (r : Region) : TouchClass :=
  match table.find? (·.accepts r) with
  | some e => e.result
  | none => .unknown

/-- The classification of a list, in order (R72). -/
def classifyAll (table : List ClassEntry) (regions : List Region) : List Region :=
  regions.map (fun r => { r with touch := classify table r })

/-- The region list of a delta image before pen-shadow removal (R58, R64). -/
def keptRegions (g : Geometry) (det : Detection) (parts : List (List Node)) : List Region :=
  (parts.take regionLimit).filterMap (regionOf g det)

/-- REGION_STAGE: the frame whose baseline stage has handed its delta image on gets its classified region list
(R54 to R66, R72). -/
def State.regionStage (s : State) (i : SurfaceId) : State :=
  let v := s.surface i
  match v.imageFlight with
  | some { frame := f, progress := .baselined delta update } =>
    let parts := components v.detection.touchThreshold delta
    let kept := keptRegions v.geometry v.detection parts
    let seen := if i == .panel then removeShadow s.pen s.panelRejection.shadowRadius kept else kept
    let regions := classifyAll v.classTable seen
    let s1 := s.withSurface i { v with imageFlight := some { frame := f, progress := .extracted regions update } }
    if regionLimit < parts.length then
      (s1.countLink i (fun c => { c with regionOverflows := bump c.regionOverflows 1 })).raiseFault
        .regionOverflow (linkSource i) f.sequence (parts.length - regionLimit)
    else s1
  | _ => s

/-- The row REGION_STAGE. -/
def execRegionStage (i : SurfaceId) (s : State) : Host.Outcome State Fault Refusal :=
  .next (if s.started then s.regionStage i else s)

end Sys2Proof.Machine
end

