-- ==== Sys2Proof/Machine/Resets.lean ====
section
/-! DEFINITION. The resets and start-up (R2, R35, R53, R107, R144, R161, R169, R174, R184 to R186). -/

namespace Sys2Proof.Machine

/-- A transaction that a reset finds in progress: every byte not yet sent is idle, and its release removes nothing
(R169). -/
def Transaction.cut (t : Transaction) : Transaction := { t with out := [], delivering := false }

/-- Every item at its hardware-reset value; the model's own fields are kept. -/
def State.resetItems (s : State) : State := { State.reset with free := s.free, pending := s.pending }

/-- HARDWARE_RESET: the part is held idle until start-up; the cause is the source's (R170, R184). -/
def State.hardwareReset (s : State) (source : ResetSource) : State :=
  { s.resetItems with
    resetCause := match source with
      | .powerOn => .powerOn
      | .resetPin => .resetPin }

/-- START_UP: the straps are sampled, the time base starts from 0 at the rate REFSEL selects, and every item takes its
hardware-reset value (R184). -/
def State.startUp (s : State) (straps : Straps) : State :=
  { s.resetItems with
    started := true, straps := straps, cyclesPerTick := cyclesPerMillisecond straps.refsel,
    resetCause := s.resetCause }

/-- A surface after SOFT_RESET: its processing state at reset values, its configuration, counters and presence kept
(R2, R35, R53, R186). -/
def Surface.softReset (v : Surface) : Surface :=
  { v.ended .stopped with framer := .hunting, relay := none, lastGood := 0, lastTracked := 0 }

/-- SOFT_RESET's one step before its RESPONSE records (R186). -/
def State.softResetItems (s : State) : State :=
  ({ s with
    pad := s.pad.softReset, panel := s.panel.softReset, slots := List.replicate 16 .cleared, nextContact := 1,
    switchReported := false, guard := none, linger := none, pen := .atReset, gesture := .atReset, queue := [],
    transaction := s.transaction.map Transaction.cut, pendingCapture := none, captureBuffer := none,
    buffer := s.buffer.tail, headWaited := false }).withSticky false false

/-- SOFT_RESET after its checks: the ABORTED response of a pending capture, then its own OK (R186). -/
def State.runSoftReset (s : State) (r : Request) : State :=
  (match s.pendingCapture with
    | some c => s.softResetItems.respond c.tag 11 .aborted []
    | none => s.softResetItems).respond r.tag r.code .ok []

/-- FULL_RESET's one step before its RESPONSE: hardware-reset values; straps and time base kept; the requests behind
it discarded; the cause is FULL_RESET (R170, R185). -/
def State.fullResetItems (s : State) : State :=
  { s.resetItems with
    started := true, straps := s.straps, cyclesPerTick := s.cyclesPerTick, time := s.time, resetCause := .fullReset,
    transaction := s.transaction.map (fun t => { t.cut with clearsCause := false }) }

/-- FULL_RESET after its checks (R185). -/
def State.runFullReset (s : State) (r : Request) : State := s.fullResetItems.respond r.tag r.code .ok []

/-! ## The rows -/

/-- The row HARDWARE_RESET. -/
def execHardwareReset (source : ResetSource) (s : State) : Host.Outcome State Fault Refusal :=
  .next (s.hardwareReset source)

/-- The row START_UP: it follows a hardware reset. -/
def execStartUp (straps : Straps) (s : State) : Host.Outcome State Fault Refusal :=
  .next (if s.started then s else s.startUp straps)

/-- The row SOFT_RESET. -/
def execSoftReset (s : State) : Host.Outcome State Fault Refusal := .next (s.runHead 14 State.runSoftReset)

/-- The row FULL_RESET. -/
def execFullReset (s : State) : Host.Outcome State Fault Refusal := .next (s.runHead 15 State.runFullReset)

end Sys2Proof.Machine
end

