-- ==== Sys2Proof/Machine/SystemLink.lean ====
section
/-! DEFINITION. The system link: downstream packets and notices, request intake, transactions and the attention line
(R15, R115, R168 to R173). -/

namespace Sys2Proof.Machine

/-! ## Sticky flags (R170) -/

/-- A flag set anew while a transaction is in progress stays set at its release (R170). -/
def Transaction.keepPacketError (t : Transaction) : Transaction := { t with clearsPacketError := false }

def Transaction.keepRequestRefused (t : Transaction) : Transaction := { t with clearsRequestRefused := false }

/-- PACKET_ERROR is set (R170). -/
def State.setPacketError (s : State) : State :=
  (s.withTransaction (s.transaction.map (·.keepPacketError))).withSticky true s.requestRefused

/-- REQUEST_REFUSED is set (R170). -/
def State.setRequestRefused (s : State) : State :=
  (s.withTransaction (s.transaction.map (·.keepRequestRefused))).withSticky s.packetError true

/-! ## Packet faults, notices and intake (R171, R172) -/

/-- A packet fault: the packet is discarded, the flag set, the counter and the fault raised (R171). -/
def State.packetFault (s : State) (tag : Byte) (reason : PacketReason) : State :=
  ({ s with packetCrcCount := bump s.packetCrcCount 1 }.raiseFault .packetCrc .systemLink tag
    (codeIn packetReasonOrder reason)).setPacketError

/-- The posture a POSTURE payload names: one byte among the five (R171). -/
def postureOf : List Byte → Option Posture
  | [b] => valueIn postureOrder b.toNat
  | _ => none

/-- A POSTURE notice sound in CRC and length: the posture follows it, or it is a packet fault (R15, R171). -/
def State.takePosture (s : State) (tag : Byte) (payload : List Byte) : State :=
  match postureOf payload with
  | some p => { s with posture := p }
  | none => s.packetFault tag .noticeValue

/-- A KEY_ACTIVITY notice sound in CRC and length (R115, R171). -/
def State.takeKeyActivity (s : State) (tag : Byte) (payload : List Byte) : State :=
  if payload.isEmpty then s.keyActivity else s.packetFault tag .noticeValue

/-- A request without fault is accepted while the budget is below 4, and refused otherwise (R172). -/
def State.intake (s : State) (r : Request) : State :=
  if s.budget < 4 then s.withBuffer (s.buffer ++ [r])
  else
    ({ s with refusedCount := bump s.refusedCount 1 }.raiseFault .requestRefused .systemLink r.tag
      r.code.toNat).setRequestRefused

/-- A downstream packet as its bytes lie (R188). -/
structure Packet where
  kind : Nat
  code : Byte
  tag : Byte
  payload : List Byte
  deriving DecidableEq, Repr

/-- The packet of the bytes after the transaction code, or the first of the reasons CRC, LENGTH and KIND that
applies. The last two bytes are the CRC (R171, R188; notes/assumptions/7.md for packets shorter than a packet). -/
def packetOf (bytes : List Byte) : PacketReason ⊕ Packet :=
  let n := bytes.length
  let body := bytes.take (n - 2)
  if n < 2 || stamp (crc16 body) != bytes.drop (n - 2) then .inl .crc
  else if n < 7 || n - 7 != word16At bytes 3 then .inl .length
  else if byteAt bytes 0 != 1 && byteAt bytes 0 != 2 then .inl .kind
  else .inr { kind := byteAt bytes 0, code := bytes.getD 1 0, tag := bytes.getD 2 0, payload := body.drop 5 }

/-- The tag byte as received; when the packet ended before it, its value is free (notes/assumptions/7.md). -/
def State.receivedTag (s : State) (bytes : List Byte) : Byte := bytes.getD 2 (Config.freeByte s.free)

/-- A sound packet is a request for intake or a notice taken at once (R171). -/
def State.takePacket (s : State) (p : Packet) : State :=
  if p.kind == 1 then s.intake { code := p.code, tag := p.tag, payload := p.payload }
  else match p.code.toNat with
    | 1 => s.takePosture p.tag p.payload
    | 2 => s.takeKeyActivity p.tag p.payload
    | _ => s.packetFault p.tag .noticeCode

/-- The end of a PUT (R171). -/
def State.takePut (s : State) (bytes : List Byte) : State :=
  match packetOf bytes with
  | .inl reason => s.withFreeRead.packetFault (s.receivedTag bytes) reason
  | .inr p => s.takePacket p

/-! ## Transactions (R168 to R170) -/

/-- A TAKE or STATUS at its first byte: the snapshot header, and for TAKE of a queue that is not empty the head record,
which becomes under delivery (R168). -/
def State.opened (s : State) (delivers : Bool) : Transaction :=
  let record := if delivers then (match s.queue with
    | r :: _ => r.bytes
    | [] => []) else []
  { out := s.statusHeader ++ record
    sendsHeader := true
    delivering := delivers && !s.queue.isEmpty
    recordLength := record.length
    clearsPacketError := s.packetError
    clearsRequestRefused := s.requestRefused
    clearsCause := s.resetCause != .none }

/-- A transaction of an unknown code: idle bytes until its release (R168). -/
def Transaction.idle : Transaction :=
  { out := [], sendsHeader := false, delivering := false, recordLength := 0, clearsPacketError := false,
    clearsRequestRefused := false, clearsCause := false }

/-- Transactions are served: start-up is complete (R168), and SYS_SEL is high, so that one can begin (R167). -/
def State.linkFree (s : State) : Bool := s.started && s.transaction.isNone

/-- What a header sent in full clears (R170). -/
def State.clearShown (s : State) (t : Transaction) : State :=
  { s with resetCause := if t.clearsCause then .none else s.resetCause }.withSticky
    (s.packetError && !t.clearsPacketError) (s.requestRefused && !t.clearsRequestRefused)

/-- A surface that is not RUNNING and has a closing (R103). -/
def State.closingDue (s : State) (i : SurfaceId) : Bool := (s.surface i).status != .running && s.hasClosing i

/-- The closing-only report of a surface after a removal (R103). -/
def State.retryClosing (s : State) (i : SurfaceId) : State := if s.closingDue i then s.closingOnlyReport i else s

/-- Both surfaces, PAD before PANEL (R103). -/
def State.retryClosings (s : State) : State := (s.retryClosing .pad).retryClosing .panel

/-- The offers after a removal. With a pending END and a closing-only report both due, their order is free (R103,
R169; notes/assumptions/16.md). -/
def State.afterRemoval (s : State) : State :=
  if s.gesture.pendingEnd.isSome && (s.closingDue .pad || s.closingDue .panel) then
    if Config.freeFlag s.free then s.withFreeRead.retryEnd.retryClosings else s.withFreeRead.retryClosings.retryEnd
  else s.retryClosings.retryEnd

/-- The release of SYS_SEL after `sent` bytes of the header and record (R169, R170). -/
def State.release (s : State) (t : Transaction) (sent : Nat) : State :=
  let s1 := s.withTransaction none
  let s2 := if t.sendsHeader && 6 ≤ sent then s1.clearShown t else s1
  if t.delivering && 6 + t.recordLength ≤ sent then (s2.withQueue s2.queue.tail).afterRemoval else s2

/-! ## The rows -/

/-- The row PUT. -/
def execPut (bytes : List Byte) (s : State) : Host.Outcome State Fault Refusal :=
  .next (if s.linkFree then s.takePut bytes else s)

/-- The row POSTURE. -/
def execPosture (tag : Byte) (payload : List Byte) (s : State) : Host.Outcome State Fault Refusal :=
  .next (if s.started then s.takePosture tag payload else s)

/-- The row KEY_ACTIVITY. -/
def execKeyActivity (tag : Byte) (payload : List Byte) (s : State) : Host.Outcome State Fault Refusal :=
  .next (if s.started then s.takeKeyActivity tag payload else s)

/-- The row TAKE. -/
def execTake (s : State) : Host.Outcome State Fault Refusal :=
  .next (if s.linkFree then s.withTransaction (some (s.opened true)) else s)

/-- The row STATUS. -/
def execStatus (s : State) : Host.Outcome State Fault Refusal :=
  .next (if s.linkFree then s.withTransaction (some (s.opened false)) else s)

/-- The row UNKNOWN_TRANSACTION_CODE; 1, 2 and 3 are the known codes (R168, R188). -/
def execUnknownTransactionCode (code : Byte) (s : State) : Host.Outcome State Fault Refusal :=
  .next (if s.linkFree && (code.toNat == 0 || 3 < code.toNat) then s.withTransaction (some .idle) else s)

/-- The row TRANSACTION_RELEASE. -/
def execTransactionRelease (sent : Nat) (s : State) : Host.Outcome State Fault Refusal :=
  .next (match s.transaction with
    | some t => s.release t sent
    | none => s)

/-- The row ATTN_MAX_DELAY: the pin follows the delay test (R173). -/
def execAttnMaxDelay (s : State) : Host.Outcome State Fault Refusal :=
  .next (if s.delayReached then s.refreshAttn else s)

end Sys2Proof.Machine
end

