-- ==== Sys2Proof/Machine/TrackingStep.lean ====
section
/-! DEFINITION. The TRACKING_STEP: the eight stages of R86 as one action on the contact table, with the POSTURE notices
that meet it. -/

namespace Sys2Proof.Machine

/-- The surface at the completion of a RUNNING IMAGE frame: the baseline stage's changes take hold (R37), and the
frame is the last to complete its tracking step (R103). -/
def Surface.completed (v : Surface) (f : ImageFrame) (u : BaselineUpdate) : Surface :=
  { v with
    imageFlight := none, baseline := u.baseline, driftCounter := u.driftCounter, anomalyCount := u.anomalyCount,
    lastTracked := f.sequence }

/-- TABLE_FULL is counted and raised once for a frame with refused regions (R94). -/
def State.tableFull (s : State) (i : SurfaceId) (f : ImageFrame) (refused : Nat) : State :=
  if refused == 0 then s
  else (s.countLink i (fun c => { c with tableFull := bump c.tableFull 1 })).raiseFault .tableFull .tracker f.sequence
    refused

/-- What PAD's gesture stage reads, the posture as it stands when the stage runs (R16, R148). -/
def State.stageInputs (s : State) (f : ImageFrame) : StageInputs :=
  { table := s.gestureTable, reporting := s.pad.reporting, geometry := s.pad.geometry, now := f.arrival,
    switchClosed := f.switchClosed, masked := !s.pad.reporting.holds s.posture, fresh := s.free }

/-- POSTURE notices taken in order, each as its row takes it (R15, R16). -/
def State.takeNotices (s : State) (notices : List PostureNotice) : State :=
  notices.foldl (fun t n => t.takePosture n.tag n.payload) s

/-- Stages 1 to 5: pairing, updates and admission with TABLE_FULL, then the rejection stage, which reads the posture the
step finds (R16, R86, R109). -/
def State.tableStages (s : State) (i : SurfaceId) (f : ImageFrame) (regions : List Region) : State :=
  let v := s.surface i
  let a := trackRegions i v.geometry v.detection f.elapsed regions s.slots s.nextContact
  { s.noteWait.tableFull i f a.refused with
    nextContact := a.nextContact, slots := (s.rejectionInputs i).stage a.slots }

/-- Stage 6 on the slots that the rejection stage left; PANEL has none (R86). -/
def State.gestureStageOf (s : State) (i : SurfaceId) (f : ImageFrame) : StageResult :=
  match i with
  | .pad => gestureStage (s.stageInputs f) s.gesture s.slots
  | .panel => { engine := s.gesture, slots := s.slots, events := [] }

/-- Stages 7 and 8: the frame report, then on PAD the pending END and the stage's events, then the next frame
(R86, R159). -/
def State.finishFrame (s : State) (i : SurfaceId) (f : ImageFrame) (events : List GestureEvent) : State :=
  let s1 := s.frameReport i f
  (match i with
    | .pad => s1.retryEnd.offerEvents f.sequence (low16 f.arrival) events
    | .panel => s1).takeImage i

/-- The whole step for a frame with its region list. Each of the rejection stage, the gesture stage and the frame report
reads the posture as it stands when it runs, so a notice between two of them reaches the later ones (R16, R109). -/
def State.trackFrame (s : State) (run : TrackingRun) (f : ImageFrame) (regions : List Region) (u : BaselineUpdate) :
    State :=
  let i := run.surface
  let s1 := (s.tableStages i f regions).takeNotices run.afterRejection
  let r := s1.gestureStageOf i f
  let s2 := ((s1.withFreeRead.withSlots r.slots).withGesture r.engine).takeNotices run.afterGestures
  (s2.withSurface i ((s2.surface i).completed f u)).finishFrame i f r.events

/-- TRACKING_STEP of the surface's IMAGE frame in flight (R86). -/
def State.trackingStep (s : State) (run : TrackingRun) : State :=
  match (s.surface run.surface).imageFlight with
  | some { frame := f, progress := .extracted regions update } => s.trackFrame run f regions update
  | _ => s

/-- The row TRACKING_STEP. -/
def execTrackingStep (run : TrackingRun) (s : State) : Host.Outcome State Fault Refusal :=
  .next (if s.started then s.trackingStep run else s)

end Sys2Proof.Machine
end

