-- ==== Sys2Proof/Machine/Dispatch.lean ====
section
/-! DEFINITION. The meaning of every command: one arm per constructor of `Instr`, each a direct call. -/

namespace Sys2Proof.Machine

/-- What a command does to everything but the queue of commands. -/
def exec (i : Instr) (s : State) : Host.Outcome State Fault Refusal :=
  match i with
  | .hardwareReset source => Sys2Proof.Machine.execHardwareReset source s
  | .startUp straps => Sys2Proof.Machine.execStartUp straps s
  | .timeBaseTick => Sys2Proof.Machine.execTimeBaseTick s
  | .scanPacket link payload crc => Sys2Proof.Machine.execScanPacket link payload crc s
  | .oversize link header => Sys2Proof.Machine.execOversize link header s
  | .truncated link => Sys2Proof.Machine.execTruncated link s
  | .frameTimeout surface => Sys2Proof.Machine.execFrameTimeout surface s
  | .baselineStage surface => Sys2Proof.Machine.execBaselineStage surface s
  | .regionStage surface => Sys2Proof.Machine.execRegionStage surface s
  | .trackingStep run => Sys2Proof.Machine.execTrackingStep run s
  | .penStage => Sys2Proof.Machine.execPenStage s
  | .typingGuardExpiry => Sys2Proof.Machine.execTypingGuardExpiry s
  | .lingerDeadline => Sys2Proof.Machine.execLingerDeadline s
  | .relayTransmitComplete link => Sys2Proof.Machine.execRelayTransmitComplete link s
  | .put bytes => Sys2Proof.Machine.execPut bytes s
  | .posture tag payload => Sys2Proof.Machine.execPosture tag payload s
  | .keyActivity tag payload => Sys2Proof.Machine.execKeyActivity tag payload s
  | .take => Sys2Proof.Machine.execTake s
  | .status => Sys2Proof.Machine.execStatus s
  | .unknownTransactionCode code => Sys2Proof.Machine.execUnknownTransactionCode code s
  | .transactionRelease sent => Sys2Proof.Machine.execTransactionRelease sent s
  | .attnMaxDelay => Sys2Proof.Machine.execAttnMaxDelay s
  | .unknownRequest => Sys2Proof.Machine.execUnknownRequest s
  | .describe => Sys2Proof.Machine.execDescribe s
  | .start => Sys2Proof.Machine.execStart s
  | .stop => Sys2Proof.Machine.execStop s
  | .rebase => Sys2Proof.Machine.execRebase s
  | .loadTable => Sys2Proof.Machine.execLoadTable s
  | .readTable => Sys2Proof.Machine.execReadTable s
  | .setParams => Sys2Proof.Machine.execSetParams s
  | .readParams => Sys2Proof.Machine.execReadParams s
  | .readStatus => Sys2Proof.Machine.execReadStatus s
  | .clearFault => Sys2Proof.Machine.execClearFault s
  | .capture => Sys2Proof.Machine.execCapture s
  | .readCapture => Sys2Proof.Machine.execReadCapture s
  | .relay => Sys2Proof.Machine.execRelay s
  | .softReset => Sys2Proof.Machine.execSoftReset s
  | .fullReset => Sys2Proof.Machine.execFullReset s
  | .startDelimiter link => Sys2Proof.Machine.execStartDelimiter link s
  | .headerComplete link header => Sys2Proof.Machine.execHeaderComplete link header s

end Sys2Proof.Machine
end

