-- ==== Sys2Proof/Safety.lean ====
section
/-! DEFINITION. What a sound state of the part is: the bounds and relations the spec states between its items, in
the terms the statements use. -/

namespace Sys2Proof.Machine

/-- How many ALERT records the queue holds. -/
def State.alertCount (s : State) : Nat := s.queue.countP (·.body.isAlert)

/-- The queue's places: at most 59 general records, a response budget of at most 4, at most one ALERT, and hence at
most 64 records (R162, R166, R172); almost_full within its range (chapter 10). -/
abbrev State.QueueBounded (s : State) : Prop :=
  s.queueBlock.almostFull ≤ 59 ∧ s.generalCount ≤ 59 ∧ s.budget ≤ 4 ∧ s.alertCount ≤ 1 ∧ s.depth ≤ 64

/-- A surface is in ACQUIRING or RUNNING. -/
def SurfaceState.processing : SurfaceState → Bool
  | .acquiring => true
  | .running => true
  | .stopped => false
  | .stalled => false

/-- The surface's frame timeout timer runs exactly in ACQUIRING and RUNNING, and no frame waits or is in flight in
STOPPED or STALLED (R7, R13). -/
abbrev Surface.Timed (v : Surface) : Prop :=
  v.timer.isSome = v.status.processing ∧
    (v.status.processing = false →
      v.imageSlot = none ∧ v.penSlot = none ∧ v.imageFlight = none ∧ v.penFlight = none)

/-- Both surfaces. -/
abbrev State.Timed (s : State) : Prop := s.pad.Timed ∧ s.panel.Timed

/-- The baseline is all 0 while baseline valid is clear (R36); RUNNING has a valid baseline (R41), and a frame past its
baseline stage belongs to RUNNING (R5, R37). -/
abbrev Surface.BaselineSound (v : Surface) : Prop :=
  (v.baselineValid = false → v.baseline = v.geometry.zeroImage) ∧
    (v.status = .running → v.baselineValid = true) ∧
    (v.imageFlight.all (fun f => f.progress == .taken || v.status == .running) = true)

/-- Both surfaces. -/
abbrev State.BaselineSound (s : State) : Prop := s.pad.BaselineSound ∧ s.panel.BaselineSound

/-- The slots that are not FREE, by contact ID. -/
def liveContacts (slots : List Slot) : List Nat := (slots.filter (fun k => k.state != .free)).map (·.contact)

/-- One slot's fields agree with its state: a FREE slot is cleared (by R107 after a
reset, and in every other way by notes/assumptions/10.md), a suppression reason is present only in
SUPPRESSED and an ENDING slot holds a closing (R84), and a closing belongs to an announced, unclosed slot (R85). -/
abbrev Slot.Sound (k : Slot) : Prop :=
  (k.state = .free → k = .cleared) ∧ (k.reason.isSome = (k.state == .suppressed)) ∧
    (k.state = .ending → k.closing.isSome = true) ∧
    (k.closing.isSome = true → k.announced = true ∧ k.closed = false)

/-- The contact table has 16 sound slots, and no two that are not FREE hold one contact ID, 1 to 255 (R84, R95). -/
abbrev State.ContactsSound (s : State) : Prop :=
  s.slots.length = 16 ∧ (1 ≤ s.nextContact ∧ s.nextContact ≤ 255) ∧ (∀ k ∈ s.slots, k.Sound) ∧
    (∀ c ∈ liveContacts s.slots, 1 ≤ c ∧ c ≤ 255) ∧ (liveContacts s.slots).Nodup

/-- The committed gesture is present in COMMITTED and in no other state, and no END is pending then (R145, R160). -/
abbrev State.GestureSound (s : State) : Prop :=
  s.gesture.committed.isSome = (s.gesture.state == .committed) ∧
    (s.gesture.pendingEnd.isSome = true → s.gesture.state ≠ .committed)

/-- A framer in PAYLOAD holds a declared count of at most 8064 (R17). -/
def Framer.sound : Framer → Bool
  | .payload h => h.payloadCount.toNat ≤ 8064
  | .hunting => true
  | .header => true

/-- Both links. -/
abbrev State.FramerSound (s : State) : Prop := s.pad.framer.sound = true ∧ s.panel.framer.sound = true

/-- All of the above. -/
abbrev State.Sound (s : State) : Prop :=
  s.QueueBounded ∧ s.Timed ∧ s.BaselineSound ∧ s.ContactsSound ∧ s.GestureSound ∧ s.FramerSound

/-! ## Terms the statements use -/

/-- The request `r` of a code is at the head of the buffer and passes the checks of R175. -/
abbrev State.AtHead (s : State) (r : Request) (code : Nat) : Prop :=
  s.started = true ∧ s.buffer.head? = some r ∧ r.code.toNat = code ∧ requestCheck s.straps.panelEn r = none

/-- The RESPONSE record that answers a request now (R175, R189). -/
def State.responseTo (s : State) (r : Request) (rc : ResponseCode) (data : List Byte) : Record :=
  { sequence := r.tag, timestamp := low16 s.time, placed := s.time, body := .response r.code rc data }

/-- The payload bytes that `n` samples take in a format (R20). -/
def payloadOf (format : SampleFormat) (n : Nat) : Nat :=
  match format with
  | .s16 => 2 * n
  | .u12p => 3 * ((n + 1) / 2)

/-- The packet in reception on a link has just been completed by a payload: the framer held its header, and the link
takes part (R17, R18). -/
abbrev State.Completes (s : State) (i : SurfaceId) (h : ScanHeader) (payload : List Byte) : Prop :=
  s.started = true ∧ s.present i = true ∧ (s.surface i).framer = .payload h ∧
    payload.length = h.payloadCount.toNat

/-- The packet meets the intake checks: it is not an IMAGE or PEN packet of a STOPPED surface (R18). -/
abbrev State.Examined (s : State) (i : SurfaceId) (h : ScanHeader) (payload : List Byte) : Prop :=
  s.Completes i h payload ∧ ((s.surface i).status = .stopped → h.kind ≠ 1 ∧ h.kind ≠ 2)

/-- An IMAGE or PEN header agrees with GEOMETRY in channel counts and format (R20). -/
abbrev Agrees (h : ScanHeader) (g : Geometry) : Prop :=
  h.driveCount.toNat = g.driveChannels ∧ h.senseCount.toNat = g.senseChannels ∧
    h.format.toNat = (match g.format with
      | .s16 => 0
      | .u12p => 1)

/-- The CRC that two bytes spell in the order they arrive: the first is the less significant one (R187). -/
def receivedCrc (crc : Byte × Byte) : BitVec 16 := BitVec.ofNat 16 (crc.1.toNat + 256 * crc.2.toNat)

/-- A good IMAGE packet of a surface that is not STOPPED (R18 to R20). -/
abbrev State.GoodImage (s : State) (i : SurfaceId) (h : ScanHeader) (payload : List Byte) (crc : Byte × Byte) : Prop :=
  s.Completes i h payload ∧ (s.surface i).status ≠ .stopped ∧ h.kind = 1 ∧
    crc16 (headerBytes h ++ payload) = receivedCrc crc ∧ Agrees h (s.surface i).geometry ∧
    payload.length = payloadOf (s.surface i).geometry.format
      ((s.surface i).geometry.driveChannels * (s.surface i).geometry.senseChannels)

/-- A good PEN packet on the PANEL link, out of STOPPED (R18 to R20). -/
abbrev State.GoodPen (s : State) (h : ScanHeader) (payload : List Byte) (crc : Byte × Byte) : Prop :=
  s.Completes .panel h payload ∧ s.panel.status ≠ .stopped ∧ h.kind = 2 ∧
    crc16 (headerBytes h ++ payload) = receivedCrc crc ∧ Agrees h s.panel.geometry ∧
    payload.length = payloadOf s.panel.geometry.format (s.panel.geometry.senseChannels + s.panel.geometry.driveChannels)
      + (if h.flags.getLsbD 1 then 4 else 0)

/-- Frames missed before a sequence, given the expected number (R22). -/
def missedBefore (expected : Option Byte) (sequence : Byte) : Nat :=
  match expected with
  | none => 0
  | some e => (sequence.toNat + 256 - e.toNat) % 256

/-- SEQ_GAP is raised when frames were missed (R22). -/
def State.gapRaised (s : State) (i : SurfaceId) (sequence : Byte) (missed : Nat) : State :=
  if missed = 0 then s else s.raiseFault .seqGap (linkSource i) sequence missed

/-- Samples packed by R188's S16. -/
def packS16 (xs : List Int) : List Byte := xs.flatMap le16

/-- Two samples packed by R188's U12P into three bytes. -/
def packPair (a b : Nat) : List Byte :=
  [BitVec.ofNat 8 a, BitVec.ofNat 8 (a / 256 + 16 * (b % 16)), BitVec.ofNat 8 (b / 16)]

/-- Samples packed by R188's U12P; the last of an odd run goes with a pad value. -/
def packU12P (pad : Nat) : List Nat → List Byte
  | a :: b :: rest => packPair a b ++ packU12P pad rest
  | [a] => packPair a pad
  | [] => []

/-- A downstream packet laid out by R188, CRC included. -/
def downstream (kind code tag : Byte) (payload : List Byte) : List Byte :=
  let body := [kind, code, tag] ++ le16 payload.length ++ payload
  body ++ stamp (crc16 body)

/-- The value of a node of an image, when the image has the node. -/
def nodeAt (image : Image) (d k : Nat) : Option Int := (image[d]?).bind (fun row => row[k]?)

/-- The cycles of the reference per millisecond, by REFSEL code 0 to 7 (R184). -/
def referenceCycles : List Nat := [12000, 19200, 24000, 26000, 38400, 24000, 19200, 38400]

/-- The bounding values R177 names for DETECTION. -/
abbrev Detection.InRange (d : Detection) : Prop :=
  (1 ≤ d.touchThreshold ∧ d.touchThreshold ≤ 4095) ∧ d.noiseFloor ≤ 4094 ∧
    (1 ≤ d.acquireFrames ∧ d.acquireFrames ≤ 64) ∧ (1 ≤ d.driftInterval ∧ d.driftInterval ≤ 127) ∧
    (1 ≤ d.driftStep ∧ d.driftStep ≤ 255) ∧ (1 ≤ d.negativeThreshold ∧ d.negativeThreshold ≤ 4095) ∧
    (1 ≤ d.anomalyFrames ∧ d.anomalyFrames ≤ 255) ∧ (1 ≤ d.contactLimit ∧ d.contactLimit ≤ 16) ∧
    (1 ≤ d.confirmFrames ∧ d.confirmFrames ≤ 8) ∧ d.coastFrames ≤ 8 ∧
    (16 ≤ d.trackGate ∧ d.trackGate ≤ 4095) ∧ (10 ≤ d.frameTimeout ∧ d.frameTimeout ≤ 1000)

/-- A class entry that R69 and R70 allow. -/
abbrev ClassEntry.Valid (e : ClassEntry) : Prop :=
  e.areaMin ≤ e.areaMax ∧ e.peakMin ≤ e.peakMax ∧ e.widthMin ≤ e.widthMax ∧ e.heightMin ≤ e.heightMax ∧
    e.densityMin ≤ e.densityMax ∧ e.areaMax < 65536 ∧ e.peakMax < 65536 ∧ e.widthMax < 65536 ∧
    e.heightMax < 65536 ∧ e.densityMax < 65536 ∧ e.result ≠ .unknown

/-- A zone entry that R75 and R76 allow. -/
abbrev ZoneEntry.Valid (e : ZoneEntry) : Prop := e.x0 ≤ e.x1 ∧ e.y0 ≤ e.y1 ∧ e.x1 < 65536 ∧ e.y1 < 65536

/-- A gesture entry that R146 and R147 allow. -/
abbrev GestureEntry.Valid (e : GestureEntry) : Prop :=
  (1 ≤ e.fingers ∧ e.fingers ≤ 5) ∧ (1 ≤ e.code ∧ e.code ≤ 250) ∧ e.threshold < 65536 ∧ e.limit < 65536 ∧
    e.maxTime < 65536 ∧ directionAllowed e.kind e.direction = true

/-- A line map entry that R30 allows. -/
abbrev LineEntry.Valid (e : LineEntry) : Prop := e.line.all (· ≤ 254) = true

/-- What makes an item of a surface missing at START (R3, R4). -/
def State.missingItem (s : State) (i : SurfaceId) (item : ReadyItem) : Bool :=
  let v := s.surface i
  match item with
  | .geometry => !v.geometryReady
  | .lineMap => !v.geometryReady || !v.lineMapLoaded
  | .detection => !v.detectionReady
  | .reporting => !v.reportingReady
  | .rejection =>
    match i with
    | .pad => !s.padRejectionReady
    | .panel => !s.panelRejectionReady
  | .classTable => !v.classReady
  | .zone => !v.zoneReady
  | .gesture => i == .pad && v.reportingReady && v.reporting.mode != .contacts && !s.gestureReady
  | .pen => i == .panel && !s.penBlockReady
  | .pressureCurve => i == .panel && !s.curve.all (·.loaded)
  | .mapConflict => v.geometryReady && v.lineMapLoaded && v.mapConflict
  | .deadLimit => v.geometryReady && v.lineMapLoaded && v.deadLimit

/-- The row that executes a request of a code (R188). -/
def rowOf (code : Nat) : Option Instr :=
  [Instr.describe, .start, .stop, .rebase, .loadTable, .readTable, .setParams, .readParams, .readStatus, .clearFault,
    .capture, .readCapture, .relay, .softReset, .fullReset][code - 1]?

/-- A request writes a deferrable block of its surface (R176). -/
def Request.deferrable (r : Request) : Bool :=
  (r.code == 7 && (r.block == some .reporting || r.block == some .rejection || r.block == some .pen)) ||
    (r.code == 5 && r.table != none && r.table != some .lineMap)

/-- The surface has a frame in flight. -/
def Surface.busy (v : Surface) : Bool := v.imageFlight.isSome || v.penFlight.isSome

/-- The request may be executed at once: REBASE has no IMAGE frame, and a write of a deferrable block no frame at all,
in flight on its surface (R10, R176). -/
abbrev State.Unhindered (s : State) (r : Request) : Prop :=
  (r.code.toNat = 4 → (s.surface r.surface).imageFlight = none) ∧
    (r.deferrable = true → (s.surface r.surface).busy = false)

end Sys2Proof.Machine
end

