-- ==== Sys2Proof/Certificates/Slice0/Obligations.lean ====
section
/-! DEFINITION. The statements for the provers. -/

open Sys2Proof Sys2Proof.Machine

/-! ## The machine as a whole -/

/-- A step runs the command at the front of the queue on the rest; with no command the part idles (the idle step is
the model's choice, notes/assumptions/5.md). -/
def Obligations.StepRunsTheFrontCommand : Prop :=
  (∀ (s : State) (c : Instr) (rest : List Instr), s.pending = c :: rest →
    step s = exec c { s with pending := rest }) ∧
  (∀ s : State, s.pending = [] → step s = .next s)

/-- The straps and the reference rate change only with HARDWARE_RESET and START_UP, and the time base only with those
two and TIME_BASE_TICK (R184). That no command stops the part is DEDUCED (notes/assumptions/25.md), that a command whose
event is not due is still answered with a next state is the model's choice (notes/assumptions/3.md), and the queue of
commands, which no command touches, is the model's own (notes/assumptions/5.md). -/
def Obligations.ClockAndStrapsHaveTheirOwners : Prop :=
  ∀ (c : Instr) (s : State), ∃ t, exec c s = .next t ∧ t.pending = s.pending ∧
    ((∀ source, c ≠ .hardwareReset source) → (∀ straps, c ≠ .startUp straps) →
      t.started = s.started ∧ t.straps = s.straps ∧ t.cyclesPerTick = s.cyclesPerTick ∧
        (c ≠ .timeBaseTick → t.time = s.time))

/-- The state after reset is sound, and so is every state that HARDWARE_RESET or START_UP leaves. -/
def Obligations.ResetsLeaveSoundStates : Prop :=
  State.reset.Sound ∧
  (∀ (source : ResetSource) (s t : State), exec (.hardwareReset source) s = .next t → t.Sound) ∧
  (∀ (straps : Straps) (s t : State), s.started = false → exec (.startUp straps) s = .next t → t.Sound)

/-- R162, R166, R172: the queue's places and the response budget are never passed, whatever step is taken. -/
def Obligations.QueueStaysBounded : Prop :=
  ∀ s t : State, s.QueueBounded → step s = .next t → t.QueueBounded

/-- R7, R13, R17: the frame timeout timer runs exactly in ACQUIRING and RUNNING, STOPPED and STALLED hold no frame, and
a framer in PAYLOAD waits for at most 8064 bytes: each of the two is kept by every step. -/
def Obligations.TimersAndFramersFollowTheirStates : Prop :=
  (∀ s t : State, s.Timed → step s = .next t → t.Timed) ∧
  (∀ s t : State, s.FramerSound → step s = .next t → t.FramerSound)

/-- R36, R41: the baseline is all 0 while baseline valid is clear, and RUNNING always has a valid baseline. -/
def Obligations.BaselineValidMarkIsTrue : Prop :=
  ∀ s t : State, s.BaselineSound → step s = .next t → t.BaselineSound

/-- R84, R85, R95: the table keeps sixteen slots, no two live slots share a contact ID, and each slot's fields agree
with its state. That every FREE slot stands cleared, and not only after a reset, is the model's choice
(notes/assumptions/10.md). -/
def Obligations.ContactTableStaysSound : Prop :=
  ∀ s t : State, s.ContactsSound → step s = .next t → t.ContactsSound

/-- R145, R160: a committed gesture is present in COMMITTED alone, and never beside a pending END. -/
def Obligations.CommittedGestureMatchesEngine : Prop :=
  ∀ s t : State, s.GestureSound → step s = .next t → t.GestureSound

/-! ## Resets, start-up and the time base -/

/-- R184, R170: a hardware reset leaves the part idle with nothing queued, every item at its reset value, and the
cause of its source; SYS_SDO and the return lanes are idle and ATTN is deasserted. Start-up after it samples the straps
once, selects the reference, starts the count from 0 and keeps the cause. -/
def Obligations.ResetThenStartUpSamplesTheStraps : Prop :=
  (∀ (source : ResetSource) (s : State), ∃ t, exec (.hardwareReset source) s = .next t ∧
    t = { State.reset with
          resetCause := (if source = .powerOn then .powerOn else .resetPin), free := s.free, pending := s.pending } ∧
    t.started = false ∧ t.queue = [] ∧ t.buffer = [] ∧ t.transaction = none ∧ t.attn = false ∧
    (∀ n, t.sdo n = 0xFF) ∧ (∀ i, (t.surface i).returnLane = none)) ∧
  (∀ (straps : Straps) (s : State), s.started = false → ∃ t, exec (.startUp straps) s = .next t ∧
    t = { State.reset with
          started := true, straps := straps, cyclesPerTick := referenceCycles.getD straps.refsel.toNat 0,
          resetCause := s.resetCause, free := s.free, pending := s.pending } ∧
    t.time = 0 ∧ t.present .pad = true ∧ t.present .panel = straps.panelEn)

/-- R184, R7, R115: a tick advances the count by one, modulo 2^32, and each running timer by one millisecond. -/
def Obligations.TickCountsOneMillisecond : Prop :=
  ∀ s : State, s.started = true → ∃ t, exec .timeBaseTick s = .next t ∧
    t.time.toNat = (s.time.toNat + 1) % 2 ^ 32 ∧
    t = { s with
          time := t.time, pad := { s.pad with timer := s.pad.timer.map (· - 1) },
          panel := { s.panel with timer := s.panel.timer.map (· - 1) }, guard := s.guard.map (· - 1) }

/-- R186: SOFT_RESET empties the queue, answers ABORTED for a pending capture and OK for itself, sets the processing
state to its reset values, and keeps the rest. What an open transaction keeps (its bytes become idle, its release removes
nothing, the flags its header showed are still cleared) is DEDUCED from R169 and R170 (notes/assumptions/24.md). -/
def Obligations.SoftResetKeepsTheConfiguration : Prop :=
  ∀ (s : State) (r : Request), s.AtHead r 14 → ∃ t, exec .softReset s = .next t ∧
    t = { s with
          pad := { s.pad with
                   status := .stopped, framer := .hunting, expectedImage := none, expectedPen := none, timer := none,
                   lastGood := 0, imageSlot := none, penSlot := none, imageFlight := none, penFlight := none,
                   relay := none, baseline := s.pad.geometry.zeroImage, baselineValid := false,
                   sums := s.pad.geometry.zeroImage, collected := 0, driftCounter := 0, anomalyCount := 0,
                   lastTracked := 0 }
          panel := { s.panel with
                     status := .stopped, framer := .hunting, expectedImage := none, expectedPen := none,
                     timer := none, lastGood := 0, imageSlot := none, penSlot := none, imageFlight := none,
                     penFlight := none, relay := none, baseline := s.panel.geometry.zeroImage,
                     baselineValid := false, sums := s.panel.geometry.zeroImage, collected := 0, driftCounter := 0,
                     anomalyCount := 0, lastTracked := 0 }
          slots := List.replicate 16 .cleared, nextContact := 1, switchReported := false, guard := none,
          linger := none, pen := .atReset, gesture := .atReset, packetError := false, requestRefused := false,
          pendingCapture := none, captureBuffer := none, buffer := s.buffer.tail, headWaited := false,
          transaction := s.transaction.map (fun x => { x with out := [], delivering := false })
          attn := true
          queue := (match s.pendingCapture with
            | some c => [{ sequence := c.tag, timestamp := low16 s.time, placed := s.time,
                           body := .response 11 .aborted [] }]
            | none => []) ++ [s.responseTo r .ok []] }

/-- R185: FULL_RESET discards the requests behind it, keeps the straps and the time base, sets the cause, and leaves
its own RESPONSE as the only record; the budget is then 1. What an open transaction keeps, and that its release does not
clear the new cause, is DEDUCED (notes/assumptions/24.md); the counter of free values, which is kept, is the model's own
(notes/assumptions/20.md). -/
def Obligations.FullResetLeavesOneResponse : Prop :=
  ∀ (s : State) (r : Request), s.AtHead r 15 → ∃ t, exec .fullReset s = .next t ∧
    t = { State.reset with
          started := true, straps := s.straps, cyclesPerTick := s.cyclesPerTick, time := s.time,
          resetCause := .fullReset, free := s.free, pending := s.pending, attn := true,
          transaction := s.transaction.map
            (fun x => { x with out := [], delivering := false, clearsCause := false })
          queue := [s.responseTo r .ok []] } ∧
    t.budget = 1

/-! ## Scan links -/

/-- R17, R18, R2: a delimiter moves a hunting framer to HEADER and is ordinary data in HEADER and PAYLOAD; a header
whose count is at most 8064 moves it to PAYLOAD; an IMAGE or PEN packet of a STOPPED surface, and any packet of a link
that takes no part, is discarded. In each case only the framer moves. -/
def Obligations.FramerFollowsItsPacket : Prop :=
  ∀ (s : State) (i : SurfaceId),
    ((s.surface i).framer = .hunting →
      exec (.startDelimiter i) s = .next (s.withSurface i { s.surface i with framer := .header })) ∧
    ((s.surface i).framer ≠ .hunting → exec (.startDelimiter i) s = .next s) ∧
    (∀ h : ScanHeader, (s.surface i).framer = .header → h.payloadCount.toNat ≤ 8064 →
      exec (.headerComplete i h) s = .next (s.withSurface i { s.surface i with framer := .payload h })) ∧
    (∀ (h : ScanHeader) (payload : List Byte) (crc : Byte × Byte),
      (s.surface i).framer = .payload h → payload.length = h.payloadCount.toNat →
      (((s.surface i).status = .stopped ∧ (h.kind = 1 ∨ h.kind = 2)) ∨ s.started = false ∨ s.present i = false) →
      exec (.scanPacket i payload crc) s = .next (s.withSurface i { s.surface i with framer := .hunting }))

/-- R17: an OVERSIZE or TRUNCATED packet returns the framer to HUNTING; it counts one LENGTH_ERRORS and raises
SCAN_LENGTH with its reason, but for a link that takes no part and for a STOPPED surface unless the header is complete
with a kind that is neither IMAGE nor PEN. -/
def Obligations.AbandonedPacketsAreCounted : Prop :=
  ∀ (s : State) (i : SurfaceId),
    let hunt := s.withSurface i { s.surface i with framer := .hunting }
    let counted := fun (sequence : Byte) (reason : Nat) =>
      (s.withSurface i { s.surface i with
          framer := .hunting
          counters := { (s.surface i).counters with
                        lengthErrors := min 65535 ((s.surface i).counters.lengthErrors + 1) } }).raiseFault
        .scanLength (linkSource i) sequence reason
    let served := s.started = true ∧ s.present i = true
    let seen := fun (h : ScanHeader) => served ∧
      ((s.surface i).status ≠ .stopped ∨ (h.kind ≠ 1 ∧ h.kind ≠ 2))
    (∀ h : ScanHeader, (s.surface i).framer = .header → 8064 < h.payloadCount.toNat →
      (seen h → exec (.oversize i h) s = .next (counted h.sequence 5)) ∧
      (¬ seen h → exec (.oversize i h) s = .next hunt)) ∧
    ((s.surface i).framer = .header →
      ((served ∧ (s.surface i).status ≠ .stopped) → exec (.truncated i) s = .next (counted 0 6)) ∧
      (¬ (served ∧ (s.surface i).status ≠ .stopped) → exec (.truncated i) s = .next hunt)) ∧
    (∀ h : ScanHeader, (s.surface i).framer = .payload h →
      (seen h → exec (.truncated i) s = .next (counted h.sequence 6)) ∧
      (¬ seen h → exec (.truncated i) s = .next hunt))

/-- R19, R20: a packet that is examined fails at the CRC, or else at the first row of the form table that applies; the
failure is counted and raised with the fields of R26, and nothing else changes. -/
def Obligations.FailedPacketsAreCounted : Prop :=
  ∀ (s : State) (i : SurfaceId) (h : ScanHeader) (payload : List Byte) (crc : Byte × Byte), s.Examined i h payload →
    let v := s.surface i
    let frame := h.kind = 1 ∨ h.kind = 2
    let counts := h.driveCount.toNat = v.geometry.driveChannels ∧ h.senseCount.toNat = v.geometry.senseChannels
    let required :=
      if h.kind = 1 then
        payload.length = payloadOf v.geometry.format (v.geometry.driveChannels * v.geometry.senseChannels)
      else if h.kind = 2 then
        payload.length = payloadOf v.geometry.format (v.geometry.senseChannels + v.geometry.driveChannels)
          + (if h.flags.getLsbD 1 then 4 else 0)
      else 1 ≤ payload.length ∧ payload.length ≤ 64
    let failed := fun (reason : Nat) =>
      exec (.scanPacket i payload crc) s = .next
        ((s.withSurface i { v with
            framer := .hunting
            counters := { v.counters with lengthErrors := min 65535 (v.counters.lengthErrors + 1) } }).raiseFault
          .scanLength (linkSource i) h.sequence reason)
    (crc16 (headerBytes h ++ payload) ≠ receivedCrc crc →
      exec (.scanPacket i payload crc) s = .next
        ((s.withSurface i { v with
            framer := .hunting
            counters := { v.counters with crcErrors := min 65535 (v.counters.crcErrors + 1) } }).raiseFault
          .scanCrc (linkSource i) h.sequence h.kind.toNat)) ∧
    (crc16 (headerBytes h ++ payload) = receivedCrc crc →
      (¬ frame → h.kind ≠ 3 → failed 0) ∧
      (h.kind = 2 → i = .pad → failed 1) ∧
      (frame → ¬ (h.kind = 2 ∧ i = .pad) → ¬ counts → failed 2) ∧
      (frame → ¬ (h.kind = 2 ∧ i = .pad) → counts →
        h.format.toNat ≠ (if v.geometry.format = .s16 then 0 else 1) → failed 3) ∧
      ((h.kind = 3 ∨ (frame ∧ ¬ (h.kind = 2 ∧ i = .pad) ∧ Agrees h v.geometry)) → ¬ required → failed 4))

/-- R29: a good REPLY, in any surface state, is offered at once as a RELAY record of the surface with the packet's
sequence, the time of arrival and the bytes: appended when there is room, otherwise dropped, counted and raised, never
merged; beside that only the framer changes. A REPLY that fails the CRC or the form check leaves no RELAY record. -/
def Obligations.GoodReplyBecomesRelayRecord : Prop :=
  ∀ (s : State) (i : SurfaceId) (h : ScanHeader) (payload : List Byte) (crc : Byte × Byte),
    s.Completes i h payload → h.kind = 3 →
    let hunt := s.withSurface i { s.surface i with framer := .hunting }
    let room := s.generalCount < 59 ∨ s.generalCount < s.queueBlock.almostFull
    let good := crc16 (headerBytes h ++ payload) = receivedCrc crc ∧ 1 ≤ payload.length ∧ payload.length ≤ 64
    (good → room → exec (.scanPacket i payload crc) s = .next
      (hunt.withQueue (s.queue ++ [{ sequence := h.sequence, timestamp := low16 s.time, placed := s.time,
                                     body := .relay i payload }]))) ∧
    (good → ¬ room → exec (.scanPacket i payload crc) s = .next
      ({ hunt with droppedCount := min 65535 (s.droppedCount + 1) }.raiseFault .queueDrop .queue h.sequence 9)) ∧
    (¬ good → ∃ t, exec (.scanPacket i payload crc) s = .next t ∧
      t.queue.filter (fun r => r.body.kindCode == 9) = s.queue.filter (fun r => r.body.kindCode == 9))

/-- R9, R22 to R25: a good IMAGE frame sets the expected number, counts the frames missed, returns a STALLED surface to
a fresh acquisition, restarts the timer, and takes or replaces its place in the pending slot, from which it is put in
flight when none is in flight and none is held. -/
def Obligations.GoodImageReachesItsSlot : Prop :=
  ∀ (s : State) (i : SurfaceId) (h : ScanHeader) (payload : List Byte) (crc : Byte × Byte),
    s.GoodImage i h payload crc →
    let v := s.surface i
    let missed := missedBefore v.expectedImage h.sequence
    let f : ImageFrame :=
      { sequence := h.sequence, elapsed := missed + 1, switchClosed := i == .pad && h.flags.getLsbD 0,
        arrival := s.time,
        samples := unpackSamples v.geometry.format (v.geometry.driveChannels * v.geometry.senseChannels) payload }
    let base : Surface :=
      { v with
        framer := .hunting, expectedImage := some (h.sequence + 1), lastGood := h.sequence,
        timer := some v.detection.frameTimeout
        counters := { v.counters with seqGaps := min 65535 (v.counters.seqGaps + missed) } }
    let w : Surface :=
      if v.status = .stalled then
        { base with status := .acquiring, sums := v.geometry.zeroImage, collected := 0, driftCounter := 0,
                    anomalyCount := 0 }
      else base
    (v.imageSlot = none →
      exec (.scanPacket i payload crc) s = .next
        (((s.gapRaised i h.sequence missed).withSurface i { w with imageSlot := some f }).takeImage i)) ∧
    (∀ old, v.imageSlot = some old →
      exec (.scanPacket i payload crc) s = .next
        (((s.gapRaised i h.sequence missed).withSurface i { w with
            imageSlot := some { f with elapsed := min 65535 (old.elapsed + f.elapsed) }
            counters := { w.counters with overruns := min 65535 (w.counters.overruns + 1) } }).raiseFault
          .scanOverrun (linkSource i) h.sequence old.sequence.toNat))

/-- R9, R22 to R25: a good PEN frame of PANEL does the same for its own kind; in STALLED it is discarded after its
sequence check and starts no timer. That the discarded frame is noted as the last good one is DEDUCED
(notes/assumptions/23.md). -/
def Obligations.GoodPenFrameReachesItsSlot : Prop :=
  ∀ (s : State) (h : ScanHeader) (payload : List Byte) (crc : Byte × Byte), s.GoodPen h payload crc →
    let v := s.panel
    let missed := missedBefore v.expectedPen h.sequence
    let n := v.geometry.senseChannels + v.geometry.driveChannels
    let field := payload.drop (payloadOf v.geometry.format n)
    let f : PenFrame :=
      { sequence := h.sequence, elapsed := missed + 1,
        word := if h.flags.getLsbD 1 then
            some (BitVec.ofNat 26 (byteAt field 0 + 256 * byteAt field 1 + 65536 * byteAt field 2
              + 16777216 * byteAt field 3))
          else none
        arrival := s.time, samples := unpackSamples v.geometry.format n payload }
    let w : Surface :=
      { v with
        framer := .hunting, expectedPen := some (h.sequence + 1), lastGood := h.sequence,
        timer := if v.status = .stalled then v.timer else some v.detection.frameTimeout
        counters := { v.counters with seqGaps := min 65535 (v.counters.seqGaps + missed) } }
    (v.status = .stalled →
      exec (.scanPacket .panel payload crc) s = .next
        ((s.gapRaised .panel h.sequence missed).withSurface .panel w)) ∧
    (v.status ≠ .stalled → v.penSlot = none →
      exec (.scanPacket .panel payload crc) s = .next
        (((s.gapRaised .panel h.sequence missed).withSurface .panel { w with penSlot := some f }).takePen .panel)) ∧
    (∀ old, v.status ≠ .stalled → v.penSlot = some old →
      exec (.scanPacket .panel payload crc) s = .next
        (((s.gapRaised .panel h.sequence missed).withSurface .panel { w with
            penSlot := some { f with elapsed := min 65535 (old.elapsed + f.elapsed) }
            counters := { w.counters with overruns := min 65535 (w.counters.overruns + 1) } }).raiseFault
          .scanOverrun .panelLink h.sequence old.sequence.toNat))

/-- R21, R188: unpacking gives back every sample that packing laid down, in S16 and in U12P, the pad value of an odd
run ignored, whatever bytes follow. -/
def Obligations.UnpackingReadsEverySample : Prop :=
  (∀ (xs : List Int) (more : List Byte), (∀ x ∈ xs, -32768 ≤ x ∧ x ≤ 32767) →
    unpackSamples .s16 xs.length (packS16 xs ++ more) = xs) ∧
  (∀ (pad : Nat) (xs : List Nat) (more : List Byte), (∀ x ∈ xs, x < 4096) →
    unpackSamples .u12p xs.length (packU12P pad xs ++ more) = xs.map (fun x => (x : Int)))

/-! ## Surface ends -/

/-- R8: the expiry of a surface's timer counts TIMEOUTS, raises SCAN_TIMEOUT with the last good sequence and
frame_timeout, and ends the surface to STALLED. That the fault and its ALERT come before the surface end's records is
DEDUCED (notes/assumptions/15.md). A timer that has not run down makes no expiry (the model's choice for a command whose
event is not due, notes/assumptions/3.md). -/
def Obligations.FrameTimeoutStallsTheSurface : Prop :=
  ∀ (s : State) (i : SurfaceId), s.started = true →
    ((s.surface i).timer = some 0 →
      exec (.frameTimeout i) s = .next
        (((s.withSurface i { s.surface i with
            counters := { (s.surface i).counters with
                          timeouts := min 65535 ((s.surface i).counters.timeouts + 1) } }).raiseFault
          .scanTimeout (linkSource i) (s.surface i).lastGood (s.surface i).detection.frameTimeout).endSurface i
            .stalled)) ∧
    ((s.surface i).timer ≠ some 0 → exec (.frameTimeout i) s = .next s)

/-- R8, R12, R14, R53, R103, R106, R144, R158: what a surface end leaves. Its surface has no frame, no timer, no expected
sequence, no baseline and no tracked slot; each of its slots is as R106's table says; PAD's engine is IDLE or BLOCKED with
no committed gesture; PANEL's pen is out of range with its data cleared; a pending capture of the surface is answered
ABORTED. The records stand in R14's order: the closing-only report, the gesture END or the pen report, the ABORTED
response. The other surface and its slots, the blocks, the tables, the posture and the guard stand. That a slot freed here
is cleared is the model's choice (notes/assumptions/10.md). -/
def Obligations.SurfaceEndLeavesNothingTracked : Prop :=
  (∀ (s : State) (i : SurfaceId) (status : SurfaceState),
    let t := s.endSurface i status
    let ended : Surface := { s.surface i with
      status := status, imageSlot := none, penSlot := none, imageFlight := none, penFlight := none,
      expectedImage := none, expectedPen := none, timer := none, baseline := (s.surface i).geometry.zeroImage,
      baselineValid := false, sums := (s.surface i).geometry.zeroImage, collected := 0, driftCounter := 0,
      anomalyCount := 0 }
    let before : State := { s with
      headWaited := s.headWaited || s.headWaits
      slots := s.slots.map (fun k : Slot => if k.ofSurface i then k.endEffect else k) }.withSurface i ended
    let reported : State := before.closingOnlyReport i
    let owned : State := if i = .pad then reported.cancelOutside else reported.endPen
    t = (match s.pendingCapture with
      | some c =>
        if c.surface = i then { owned with pendingCapture := none }.append c.tag (low16 s.time) (.response 11 .aborted [])
        else owned
      | none => owned) ∧
    t.surface i = ended ∧
    (∀ j, j ≠ i → t.surface j = s.surface j) ∧
    t.slots.length = s.slots.length ∧
    (∀ (n : Nat) (k : Slot), s.slots[n]? = some k → k.surface ≠ i → t.slots[n]? = some k) ∧
    (∀ k ∈ t.slots, k.surface = i → k.state = .free ∨ k.state = .ending) ∧
    (∀ c, s.pendingCapture = some c → t.pendingCapture = if c.surface = i then none else some c) ∧
    (s.pendingCapture = none → t.pendingCapture = none) ∧
    (i = .pad → (t.gesture.state = .idle ∨ t.gesture.state = .blocked) ∧ t.gesture.committed = none ∧
      t.pen = s.pen ∧ t.linger = s.linger) ∧
    (i = .panel → t.pen = { s.pen.clearData with state := .outOfRange, coasting := false, missing := 0 } ∧
      t.linger = none ∧ t.gesture = s.gesture) ∧
    t = { s with
          pad := t.pad, panel := t.panel, slots := t.slots, switchReported := t.switchReported, gesture := t.gesture,
          pen := t.pen, linger := t.linger, pendingCapture := t.pendingCapture, queue := t.queue, attn := t.attn,
          mergedCount := t.mergedCount, deferredCount := t.deferredCount, droppedCount := t.droppedCount,
          headWaited := s.headWaited || s.headWaits, fault := t.fault }) ∧
  (∀ k : Slot,
    ((k.state = .active ∨ k.state = .held) → k.announced = true → k.closed = false →
      k.endEffect = { k with
        state := .ending, reason := none
        closing := some (k.closing.getD { kind := .cancel, x := k.x, y := k.y, touch := k.touch, area := k.area,
                                          peak := k.peak, held := k.state == .held }) }) ∧
    ((k.state = .active ∨ k.state = .held) → (k.announced = false ∨ k.closed = true) → k.endEffect = .cleared) ∧
    (k.state = .tentative → k.endEffect = .cleared) ∧
    (k.state = .suppressed → k.closing ≠ none → k.endEffect = { k with state := .ending, reason := none }) ∧
    (k.state = .suppressed → k.closing = none → k.endEffect = .cleared) ∧
    (k.state = .ending → k.endEffect = k)) ∧
  (∀ (u : State) (i : SurfaceId),
    let v := u.surface i
    let entries := (entriesOf i v.reporting v.geometry u.slots).filter (fun e => e.state == .up || e.state == .cancel)
    let o := u.offer v.lastTracked (low16 u.time) (.frameReport
      { surface := i, switchClosed := i == .pad && u.switchReported, merged := 1, entries := entries })
    (entries = [] → u.closingOnlyReport i = u) ∧
    (entries ≠ [] → o.1 = .deferred → u.closingOnlyReport i = o.2) ∧
    (entries ≠ [] → o.1 ≠ .deferred → u.closingOnlyReport i =
      { o.2 with slots := u.slots.map (fun k => if k.ofSurface i then k.placed entries else k) })) ∧
  (∀ u : State,
    let g := u.gesture
    let clear := (∀ k ∈ u.slots, k.surface = .pad → k.state = .free ∨ k.state = .ending) ∧
      u.pad.reporting.mask.getLsbD (codeIn postureOrder u.posture) = true ∧ u.pad.reporting.mode ≠ .contacts
    ∃ after : Gesture,
      (clear → after = { g with state := .idle, committed := none, hold := 0, greatest := 0, fingerTravel := 0,
                                tapEligible := false }) ∧
      (¬ clear → after = { g with state := .blocked, committed := none }) ∧
      (g.state ≠ .committed → u.cancelOutside = { u with gesture := after }) ∧
      (g.state = .committed →
        let o := { u with gesture := after }.offer u.pad.lastTracked (low16 u.time) (.gestureEnd g.number .cancelled 1)
        u.cancelOutside = { o.2 with gesture := { after with
          pendingEnd := if o.1 = .deferred then some { number := g.number, reason := .cancelled,
                                                       sequence := u.pad.lastTracked, timestamp := low16 u.time }
            else none } })) ∧
  (∀ u : State,
    let left := { u with
      pen := { u.pen.clearData with state := .outOfRange, coasting := false, missing := 0 }, linger := none }
    let shown : PenRecord := { u.pen with state := .outOfRange, coasting := false, missing := 0 }
    let reports := u.pen.state ≠ .outOfRange ∧
      u.panel.reporting.mask.getLsbD (codeIn postureOrder u.posture) = true
    (¬ reports → u.endPen = left) ∧
    (reports → u.endPen = (left.offer u.pen.lastSequence (low16 u.time)
      (.penReport (penReportOf u.panel.reporting u.panel.geometry u.curve shown))).2))

/-! ## The baseline unit -/

/-- R40, R41, R48: an acquisition frame serves a RAW capture, adds its substituted image to the sums and completes; at
acquire_frames the baseline is the rounded mean of each node, valid is set and the surface is RUNNING. To serve a capture
is to answer a pending one of the frame's surface and of the kind offered: its image, sequence and arrival time go to the
capture buffer, and its RESPONSE OK is appended; any other is left as it is. -/
def Obligations.AcquisitionFramesFormTheBaseline : Prop :=
  (∀ (s : State) (i : SurfaceId) (f : ImageFrame), s.started = true →
    (s.surface i).imageFlight = some { frame := f, progress := .taken } → (s.surface i).status = .acquiring →
    let v := s.surface i
    let image := v.substitute (v.mapImage f.samples)
    let sums := List.zipWith (List.zipWith (· + ·)) v.sums image
    let n : Int := v.detection.acquireFrames
    let w : Surface :=
      if v.collected + 1 < v.detection.acquireFrames then
        { v with imageFlight := none, sums := sums, collected := v.collected + 1 }
      else
        { v with
          imageFlight := none, status := .running, baselineValid := true,
          baseline := sums.map (·.map (fun x => (2 * x + n) / (2 * n))), sums := v.geometry.zeroImage,
          collected := 0, driftCounter := 0, anomalyCount := 0 }
    let done := ({ s with headWaited := s.headWaited || s.headWaits }.serveCapture i .raw f image).withSurface i w
    exec (.baselineStage i) s = .next ((if i = .pad then done.retryEnd else done).takeImage i)) ∧
  (∀ (s : State) (i : SurfaceId) (kind : CaptureKind) (f : ImageFrame) (image : Image),
    let v := s.surface i
    (s.pendingCapture = none → s.serveCapture i kind f image = s) ∧
    (∀ c, s.pendingCapture = some c → (c.surface ≠ i ∨ c.kind ≠ kind) → s.serveCapture i kind f image = s) ∧
    (∀ c, s.pendingCapture = some c → c.surface = i → c.kind = kind →
      let data : List Byte := [(match kind with
          | .raw => 0
          | .delta => 1
          | .baseline => 2), (if i = .pad then 0 else 1), byteOf v.geometry.driveLines,
        byteOf v.geometry.senseLines, f.sequence, f.arrival.setWidth 8, (f.arrival >>> 8).setWidth 8, 1]
      s.serveCapture i kind f image = { s with
        pendingCapture := none
        captureBuffer := some { surface := i, kind := kind, driveLines := v.geometry.driveLines,
                                senseLines := v.geometry.senseLines, sequence := f.sequence, arrival := f.arrival,
                                valid := true, image := image }
        queue := s.queue ++ [{ sequence := c.tag, timestamp := low16 s.time, placed := s.time,
                               body := .response 11 .ok data }]
        attn := s.started }))

/-- R37, R39, R43 to R47: a RUNNING frame without an automatic rebase serves a pending capture and hands on its delta
image; the drift counter, the anomaly count and the drifted baseline wait for its completion, and drift is applied only
at an opportunity with no tracked slot of the surface. The live deltas that the anomaly test examines are those of the
nodes on neither a dead drive line nor a dead sense line, as R38 formed them (R39, R46). -/
def Obligations.RunningFramesHandOnTheirDelta : Prop :=
  (∀ (v : Surface) (image : Image) (x : Int), x ∈ v.liveDeltas image ↔
    ∃ d k, nodeAt image d k = some x ∧ d ∉ v.deadDrive ∧ k ∉ v.deadSense) ∧
  ∀ (s : State) (i : SurfaceId) (f : ImageFrame), s.started = true →
    (s.surface i).imageFlight = some { frame := f, progress := .taken } → (s.surface i).status = .running →
    let v := s.surface i
    let raw := v.mapImage f.samples
    let formed := v.delta raw
    let anomalous := ∃ x ∈ v.liveDeltas formed, x ≤ -(v.detection.negativeThreshold : Int)
    let frozen := ∃ k ∈ s.slots, k.surface = i ∧
      (k.state = .tentative ∨ k.state = .active ∨ k.state = .held ∨ k.state = .suppressed)
    ¬ (anomalous ∧ v.detection.anomalyFrames ≤ v.anomalyCount + 1) →
    ∃ u : BaselineUpdate,
      exec (.baselineStage i) s = .next
        (((s.serveCapture i .raw f (v.substitute raw)).serveCapture i .delta f (v.substitute formed)).withSurface i
          { v with imageFlight := some { frame := f, progress := .baselined (v.substitute formed) u } }) ∧
      (anomalous → u.anomalyCount = v.anomalyCount + 1) ∧ (¬ anomalous → u.anomalyCount = 0) ∧
      (v.driftCounter + 1 < v.detection.driftInterval →
        u.driftCounter = v.driftCounter + 1 ∧ u.baseline = v.baseline) ∧
      (v.detection.driftInterval ≤ v.driftCounter + 1 → u.driftCounter = 0 ∧
        (frozen → u.baseline = v.baseline) ∧ (¬ frozen → u.baseline = v.drifted raw formed))

/-- R47, R11, R42, R52: an anomalous frame that brings the count to anomaly_frames serves a pending RAW or DELTA capture
from its images, counts AUTO_REBASES, raises AUTO_REBASE with the magnitude of the lowest live delta, and restarts the
acquisition with the baseline kept; the slots of the surface take R106's effect, and the closing-only report and, on PAD,
the gesture's END follow. The completion of the frame follows at once, and on PAD offers the pending END again (R160), an
END that this cancellation left pending among them. No slot of the surface stays tracked, and a capture that was not
served stays pending. That the fault comes before the rebase's records is DEDUCED (notes/assumptions/15.md). -/
def Obligations.AutomaticRebaseRestartsAcquisition : Prop :=
  ∀ (s : State) (i : SurfaceId) (f : ImageFrame), s.started = true →
    (s.surface i).imageFlight = some { frame := f, progress := .taken } → (s.surface i).status = .running →
    let v := s.surface i
    let raw := v.mapImage f.samples
    let formed := v.delta raw
    let lowest := ((v.liveDeltas formed).foldl min 0).natAbs
    let counters : LinkCounters := { v.counters with autoRebases := min 65535 (v.counters.autoRebases + 1) }
    let served := ({ s with headWaited := s.headWaited || s.headWaits }.serveCapture i .raw f
      (v.substitute raw)).serveCapture i .delta f (v.substitute formed)
    let raised : State := (served.withSurface i { v with counters := counters }).raiseFault .autoRebase (linkSource i)
      f.sequence lowest
    let restarted : State := { raised with
      slots := s.slots.map (fun k : Slot => if k.ofSurface i then k.endEffect else k) }.withSurface i { v with
        counters := counters, status := .acquiring, imageFlight := none, sums := v.geometry.zeroImage, collected := 0,
        driftCounter := 0, anomalyCount := 0 }
    let reported : State := restarted.closingOnlyReport i
    (∃ x ∈ v.liveDeltas formed, x ≤ -(v.detection.negativeThreshold : Int)) →
    v.detection.anomalyFrames ≤ v.anomalyCount + 1 →
    ∃ t, exec (.baselineStage i) s = .next t ∧
      t = (if i = .pad then reported.cancelOutside.retryEnd else reported).takeImage i ∧
      t.pendingCapture = served.pendingCapture ∧ t.captureBuffer = served.captureBuffer ∧
      (∀ c, s.pendingCapture = some c → c.surface = i → c.kind ≠ .baseline →
        t.pendingCapture = none ∧
        t.captureBuffer = some { surface := i, kind := c.kind, driveLines := v.geometry.driveLines,
                                 senseLines := v.geometry.senseLines, sequence := f.sequence, arrival := f.arrival,
                                 valid := true
                                 image := if c.kind = .raw then v.substitute raw else v.substitute formed }) ∧
      (∀ c, s.pendingCapture = some c → c.surface ≠ i →
        t.pendingCapture = some c ∧ t.captureBuffer = s.captureBuffer) ∧
      (t.surface i).status = .acquiring ∧ (t.surface i).collected = 0 ∧ (t.surface i).driftCounter = 0 ∧
      (t.surface i).anomalyCount = 0 ∧ (t.surface i).sums = v.geometry.zeroImage ∧
      (t.surface i).baseline = v.baseline ∧ (t.surface i).baselineValid = v.baselineValid ∧
      (t.surface i).timer = v.timer ∧ (t.surface i).expectedImage = v.expectedImage ∧
      (t.surface i).counters = counters ∧
      (∀ j, j ≠ i → t.surface j = s.surface j) ∧
      (∀ k ∈ t.slots, k.surface = i → k.state = .free ∨ k.state = .ending) ∧
      (∀ (n : Nat) (k : Slot), s.slots[n]? = some k → k.surface ≠ i → t.slots[n]? = some k) ∧
      t = { s with
            pad := t.pad, panel := t.panel, slots := t.slots, switchReported := t.switchReported,
            gesture := t.gesture, queue := t.queue, attn := t.attn, mergedCount := t.mergedCount,
            deferredCount := t.deferredCount, droppedCount := t.droppedCount, fault := t.fault,
            pendingCapture := t.pendingCapture, captureBuffer := t.captureBuffer,
            headWaited := s.headWaited || s.headWaits } ∧
      (i = .panel → t.gesture = s.gesture ∧ t.switchReported = s.switchReported) ∧
      (s.fault = none → s.queueBlock.captureMask.getLsbD 5 = true → ∃ m, t.fault = some
          { kind := .autoRebase, source := linkSource i, sequence := f.sequence,
            detail := lowest, timestamp := low16 s.time, more := m })

/-- R38, R45: the delta of a node is the exact difference of its raw value and its baseline value by polarity, clamped to
16 bits; values in 0..4095 are never clamped. Drift moves the baseline value of a live node with |d| < touch_threshold
toward the raw value by the smaller of their difference and drift_step, and leaves every other. -/
def Obligations.DeltaAndDriftAtEveryNode : Prop :=
  ∀ (v : Surface) (raw : Image) (d k : Nat) (r b : Int), nodeAt raw d k = some r → nodeAt v.baseline d k = some b →
    (v.geometry.polarity = .positive → nodeAt (v.delta raw) d k = some (max (-32768) (min 32767 (r - b)))) ∧
    (v.geometry.polarity = .negative → nodeAt (v.delta raw) d k = some (max (-32768) (min 32767 (b - r)))) ∧
    (0 ≤ r → r ≤ 4095 → 0 ≤ b → b ≤ 4095 →
      nodeAt (v.delta raw) d k = some (if v.geometry.polarity = .positive then r - b else b - r)) ∧
    (∀ (formed : Image) (x : Int), nodeAt formed d k = some x → ∃ moved, nodeAt (v.drifted raw formed) d k = some moved ∧
      ((d ∈ v.deadDrive ∨ k ∈ v.deadSense ∨ v.detection.touchThreshold ≤ x.natAbs) → moved = b) ∧
      (d ∉ v.deadDrive → k ∉ v.deadSense → x.natAbs < v.detection.touchThreshold →
        (moved - b).natAbs = min (r - b).natAbs v.detection.driftStep ∧
        (b ≤ r → b ≤ moved ∧ moved ≤ r) ∧ (r ≤ b → r ≤ moved ∧ moved ≤ b)))

/-- R31: the coverage test examines the entries of the front-end channels and finds a conflict exactly when a fitted
entry of an axis holds a line past the count, two hold one line, or a line of the axis is held by none; it finds the dead
limit exactly when more than four lines of an axis are dead. The dead lines, under a conflict too, are those within the
count that a fitted entry holds with its dead flag, in ascending order. With no conflict, every sensor line of each axis
has exactly one channel among the examined entries, and no examined entry names a line past the count.
R32, R34: an IMAGE sample reaches the node of its two channels' lines, and a PEN amplitude the line of its channel in the
profile of its axis.
R33: a pass leaves a live line as it is and sets a dead one, in ascending order, to the rounded average of its two usable
neighbours, to the one, or to 0; a line below it is always usable, and the line above when it is live. An image takes the
drive pass in each column and then the sense pass in each row; a profile takes the pass of its own axis. -/
def Obligations.SensorLinesTakeTheirValues : Prop :=
  (∀ v : Surface,
    let conflict := fun (entries : List LineEntry) (count : Nat) =>
      (∃ e ∈ entries, ∃ l, e.line = some l ∧ count ≤ l) ∨
      (∃ (a b : Nat) (e f : LineEntry) (l : Nat), a ≠ b ∧ entries[a]? = some e ∧ entries[b]? = some f ∧
        e.line = some l ∧ f.line = some l) ∨
      (∃ l, l < count ∧ ∀ e ∈ entries, e.line ≠ some l)
    v.driveEntries = v.lineMap.take v.geometry.driveChannels ∧
    v.senseEntries = (v.lineMap.drop 72).take v.geometry.senseChannels ∧
    (v.mapConflict = true ↔
      conflict v.driveEntries v.geometry.driveLines ∨ conflict v.senseEntries v.geometry.senseLines) ∧
    v.deadDrive.Pairwise (· < ·) ∧ v.deadSense.Pairwise (· < ·) ∧
    (∀ l, l ∈ v.deadDrive ↔ l < v.geometry.driveLines ∧ ∃ e ∈ v.driveEntries, e.line = some l ∧ e.dead = true) ∧
    (∀ l, l ∈ v.deadSense ↔ l < v.geometry.senseLines ∧ ∃ e ∈ v.senseEntries, e.line = some l ∧ e.dead = true) ∧
    (v.deadLimit = true ↔ 4 < v.deadDrive.length ∨ 4 < v.deadSense.length)) ∧
  (∀ v : Surface, v.mapConflict = false →
    (∀ l, l < v.geometry.driveLines → ∃! n : Nat, (v.driveEntries[n]?).bind (fun e : LineEntry => e.line) = some l) ∧
    (∀ l, l < v.geometry.senseLines → ∃! n : Nat, (v.senseEntries[n]?).bind (fun e : LineEntry => e.line) = some l) ∧
    (∀ e ∈ v.driveEntries, ∀ l, e.line = some l → l < v.geometry.driveLines) ∧
    (∀ e ∈ v.senseEntries, ∀ l, e.line = some l → l < v.geometry.senseLines) ∧
    (∀ samples : List Int, samples.length = v.geometry.driveChannels * v.geometry.senseChannels →
      ∀ (i j d k : Nat) (e f : LineEntry), v.driveEntries[i]? = some e → e.line = some d → v.senseEntries[j]? = some f →
        f.line = some k → nodeAt (v.mapImage samples) d k = samples[i * v.geometry.senseChannels + j]?) ∧
    (∀ samples : List Int, samples.length = v.geometry.senseChannels + v.geometry.driveChannels →
      ∃ sense drive : List Int,
        v.senseProfile samples = substitutePass average 0 v.deadSense sense ∧
        v.driveProfile samples = substitutePass average 0 v.deadDrive drive ∧
        sense.length = v.geometry.senseLines ∧ drive.length = v.geometry.driveLines ∧
        (∀ (j k : Nat) (e : LineEntry), v.senseEntries[j]? = some e → e.line = some k → sense[k]? = samples[j]?) ∧
        (∀ (i d : Nat) (e : LineEntry), v.driveEntries[i]? = some e → e.line = some d →
          drive[d]? = samples[v.geometry.senseChannels + i]?))) ∧
  (∀ (dead : List Nat) (xs : List Int), dead.Pairwise (· < ·) →
    let out := substitutePass average 0 dead xs
    out.length = xs.length ∧
    ∀ l : Nat, l < xs.length →
      let above := xs[l + 1]?
      (l ∉ dead → out[l]? = xs[l]?) ∧
      (l ∈ dead → l = 0 → (l + 1 ∈ dead ∨ above = none) → out[l]? = some 0) ∧
      (l ∈ dead → l = 0 → ∀ x, l + 1 ∉ dead → above = some x → out[l]? = some x) ∧
      (l ∈ dead → l ≠ 0 → (l + 1 ∈ dead ∨ above = none) → out[l]? = out[l - 1]?) ∧
      (l ∈ dead → l ≠ 0 → ∀ x y, l + 1 ∉ dead → above = some x → out[l - 1]? = some y →
        out[l]? = some ((x + y + 1) / 2))) ∧
  (∀ (v : Surface) (image : Image), image.length = v.geometry.driveLines →
    (∀ row ∈ image, row.length = v.geometry.senseLines) →
    ∃ driven : Image, driven.length = v.geometry.driveLines ∧
      (∀ row ∈ driven, row.length = v.geometry.senseLines) ∧
      v.substitute image = driven.map (substitutePass average 0 v.deadSense) ∧
      (∀ k, k < v.geometry.senseLines →
        driven.map (·.getD k 0) = substitutePass average 0 v.deadDrive (image.map (·.getD k 0))))

/-! ## Regions and classes -/

/-- R54, R58, R65, R72: the region stage turns a frame's delta image into its classified list of at most 24 regions; with
more than 24 components the overflow is counted and raised once with the number ignored. Nothing else changes. R59 to
R63: what is measured of a component. -/
def Obligations.RegionStageMeasuresAtMostTwentyFour : Prop :=
  (∀ (s : State) (i : SurfaceId) (f : ImageFrame) (delta : Image) (u : BaselineUpdate), s.started = true →
    (s.surface i).imageFlight = some { frame := f, progress := .baselined delta u } →
    let v := s.surface i
    let parts := components v.detection.touchThreshold delta
    let kept := (parts.take 24).filterMap (regionOf v.geometry v.detection)
    let seen := if i = .panel ∧ s.pen.state = .contact then
        kept.filter (fun r => s.panelRejection.shadowRadius < distance r.x r.y s.pen.x s.pen.y) else kept
    let regions := seen.map (fun r => { r with touch := classify v.classTable r })
    let flight := some ({ frame := f, progress := .extracted regions u } : ImageFlight)
    regions.length ≤ 24 ∧
    (parts.length ≤ 24 → exec (.regionStage i) s = .next (s.withSurface i { v with imageFlight := flight })) ∧
    (24 < parts.length → exec (.regionStage i) s = .next
      ((s.withSurface i { v with
          imageFlight := flight
          counters := { v.counters with regionOverflows := min 65535 (v.counters.regionOverflows + 1) } }).raiseFault
        .regionOverflow (linkSource i) f.sequence (parts.length - 24)))) ∧
  (∀ (g : Geometry) (det : Detection) (part : List Node), part ≠ [] →
    let w := fun (n : Node) => n.delta - det.noiseFloor
    ∃ r : Region, regionOf g det part = some r ∧ r.area = part.length ∧
      (∀ n ∈ part, n.delta ≤ r.peak) ∧ (∃ n ∈ part, n.delta = r.peak) ∧
      r.sum = (part.map (·.delta)).sum ∧ r.density = r.sum / r.area ∧ r.weight = (part.map w).sum ∧
      (∀ n ∈ part, r.driveFirst ≤ n.d ∧ n.d ≤ r.driveLast ∧ r.senseFirst ≤ n.s ∧ n.s ≤ r.senseLast) ∧
      (∃ n ∈ part, n.d = r.driveFirst) ∧ (∃ n ∈ part, n.d = r.driveLast) ∧
      (∃ n ∈ part, n.s = r.senseFirst) ∧ (∃ n ∈ part, n.s = r.senseLast) ∧
      r.width = r.senseLast - r.senseFirst + 1 ∧ r.height = r.driveLast - r.driveFirst + 1 ∧
      (r.edge = true ↔ r.driveFirst = 0 ∨ r.driveLast + 1 = g.driveLines ∨ r.senseFirst = 0 ∨
        r.senseLast + 1 = g.senseLines) ∧
      r.x = (2 * (part.map (fun n => w n * (64 * n.s + 32))).sum + r.weight) / (2 * r.weight) ∧
      r.y = (2 * (part.map (fun n => w n * (64 * n.d + 32))).sum + r.weight) / (2 * r.weight))

/-- R55 to R57: the on nodes are the nodes whose delta reaches touch_threshold, each once; two are adjacent when they
differ and lie within one line of each other on both axes; every on node belongs to exactly one component, no component is
empty, no two nodes of different components are adjacent, every two nodes of a component are joined by a chain of adjacent
nodes of it, and the components stand in the scan order of their earliest nodes. -/
def Obligations.ComponentsAreTheConnectedOnNodes : Prop :=
  ∀ (threshold : Nat) (image : Image),
    let nodes := onNodes threshold image
    let parts := components threshold image
    (∀ n : Node, n ∈ nodes ↔ nodeAt image n.d n.s = some n.delta ∧ (threshold : Int) ≤ n.delta) ∧
    nodes.Nodup ∧
    (∀ m n : Node, m.adjacent n = true ↔
      (m.d ≠ n.d ∨ m.s ≠ n.s) ∧ ((m.d : Int) - n.d).natAbs ≤ 1 ∧ ((m.s : Int) - n.s).natAbs ≤ 1) ∧
    parts.flatten.Perm nodes ∧
    (∀ c ∈ parts, c ≠ []) ∧
    parts.Pairwise (fun a b => ∀ x ∈ a, ∀ y ∈ b, x.adjacent y = false) ∧
    (∀ c ∈ parts, ∀ x ∈ c, ∀ y ∈ c, Relation.ReflTransGen (fun p q => q ∈ c ∧ p.adjacent q = true) x y) ∧
    parts.Pairwise (fun a b => ∃ x ∈ a, ∀ y ∈ b, x.d < y.d ∨ (x.d = y.d ∧ x.s < y.s))

/-- R74: a region's class is the result of the lowest entry it matches, and UNKNOWN when it matches none. R73: a region
matches a used entry when each of its five measures lies within the entry's bounds, ends included, and its edge flag meets
the entry's edge condition. -/
def Obligations.LowestMatchingEntryNamesTheClass : Prop :=
  (∀ (e : ClassEntry) (r : Region), e.accepts r = true ↔ e.used = true ∧ e.areaMin ≤ r.area ∧ r.area ≤ e.areaMax ∧
    e.peakMin ≤ r.peak ∧ r.peak ≤ e.peakMax ∧ e.widthMin ≤ r.width ∧ r.width ≤ e.widthMax ∧
    e.heightMin ≤ r.height ∧ r.height ≤ e.heightMax ∧ e.densityMin ≤ r.density ∧ r.density ≤ e.densityMax ∧
    (e.edge = .any ∨ (e.edge = .edge ∧ r.edge = true) ∨ (e.edge = .interior ∧ r.edge = false))) ∧
  ∀ (table : List ClassEntry) (r : Region),
    ((∀ e ∈ table, e.accepts r = false) → classify table r = .unknown) ∧
    (∀ (n : Nat) (e : ClassEntry), table[n]? = some e → e.accepts r = true →
      (∀ m d, m < n → table[m]? = some d → d.accepts r = false) → classify table r = e.result)

/-! ## Tracking, rejection, gestures -/

/-- R86, R37, R101 to R105: the tracking step completes the frame. The baseline stage's changes take hold, the frame
becomes the last tracked, and the next waiting frame is taken; the slots are those of tracking, rejection and gesture, and
then those the frame's report leaves. The report is built from them, full in an unmasked posture and a mode with contacts
and of UP and CANCEL entries alone otherwise, when it has an entry or, full on PAD, a new switch state; the queue placing
it applies its entries to the surface's slots and its switch state to PAD's, and the queue deferring it changes neither.
On PAD a pending END and the stage's events are offered after it. The other surface, the pen, the guard, the buffer and
the blocks stand, and with no notice the posture.
R87 to R95: tracking gives each candidate slot its matched or unmatched update, then admits the regions left unpaired in
their order while contact_limit and the table have room, each into the lowest FREE slot with the next free ID, and counts
the others as refused. A slot freed here is cleared (the model's choice, notes/assumptions/10.md).
R99, R100: each slot yields at most one entry, a closing's snapshot or the slot as it stands, oriented and scaled; that a
snapshot older than the GEOMETRY is scaled by it is the model's choice (notes/assumptions/31.md). R148: what PAD's gesture
stage reads, its time the frame's arrival.
R16, R109: the rejection stage reads the posture that the step finds; POSTURE notices taken after it reach the gesture
stage and the report, and later ones the report, each with the effect of its row. That the command carries them is the
model's choice (notes/assumptions/19.md).
R159, R160: the events are offered in the order of their ranks (O34 gives them); an END that is not placed becomes the
pending END, which is absent once one is placed; a dropped BEGIN takes the committed gesture away and blocks the engine;
nothing else that becomes of an event changes the engine. -/
def Obligations.TrackingStepCompletesTheFrame : Prop :=
  (∀ (s : State) (run : TrackingRun) (f : ImageFrame) (regions : List Region) (u : BaselineUpdate), s.started = true →
    (s.surface run.surface).imageFlight = some { frame := f, progress := .extracted regions u } →
    let i := run.surface
    let v := s.surface i
    let a := trackRegions i v.geometry v.detection f.elapsed regions s.slots s.nextContact
    let staged := (s.rejectionInputs i).stage a.slots
    let counters : LinkCounters := if a.refused = 0 then v.counters
      else { v.counters with tableFull := min 65535 (v.counters.tableFull + 1) }
    let moved : State := { s with
      headWaited := s.headWaited || s.headWaits, nextContact := a.nextContact, slots := staged }.withSurface i { v with
        counters := counters }
    let raised : State := if a.refused = 0 then moved else moved.raiseFault .tableFull .tracker f.sequence a.refused
    let taken := fun (w : State) (n : PostureNotice) =>
      match exec (.posture n.tag n.payload) w with
      | .next w' => w'
      | _ => w
    let before : State := run.afterRejection.foldl taken raised
    let stage := gestureStage (before.stageInputs f) s.gesture staged
    let gestured : State := { before with
      slots := if i = .pad then stage.slots else staged, free := s.free + 1
      gesture := if i = .pad then stage.engine else s.gesture }
    let later : State := run.afterGestures.foldl taken gestured
    let reported : State := (later.withSurface i { v with
      baseline := u.baseline, driftCounter := u.driftCounter, anomalyCount := u.anomalyCount, imageFlight := none,
      lastTracked := f.sequence, counters := counters }).frameReport i f
    let offered : State := if i = .pad then reported.retryEnd.offerEvents f.sequence (low16 f.arrival) stage.events
      else reported
    ∃ t : State, exec (.trackingStep run) s = .next t ∧ t = offered.takeImage i ∧ t.slots = reported.slots ∧
      t.switchReported = reported.switchReported ∧ t.nextContact = a.nextContact ∧ t.posture = later.posture ∧
      t.surface i = { v with
        baseline := u.baseline, driftCounter := u.driftCounter, anomalyCount := u.anomalyCount,
        lastTracked := f.sequence, counters := counters
        imageSlot := if s.holdsImage i then v.imageSlot else none
        imageFlight := if s.holdsImage i then none
          else v.imageSlot.map (fun g => { frame := g, progress := .taken }) } ∧
      (∀ j, j ≠ i → t.surface j = s.surface j) ∧
      (i = .panel → t.gesture = s.gesture ∧ t.switchReported = s.switchReported) ∧
      (run.afterRejection = [] → run.afterGestures = [] →
        t.posture = s.posture ∧ t.packetError = s.packetError ∧ t.packetCrcCount = s.packetCrcCount ∧
        t.transaction = s.transaction) ∧
      t = { s with
            pad := t.pad, panel := t.panel, slots := t.slots, nextContact := t.nextContact, gesture := t.gesture,
            switchReported := t.switchReported, queue := t.queue, attn := t.attn, mergedCount := t.mergedCount,
            deferredCount := t.deferredCount, droppedCount := t.droppedCount, fault := t.fault, free := t.free,
            posture := t.posture, packetError := t.packetError, packetCrcCount := t.packetCrcCount,
            transaction := t.transaction, headWaited := s.headWaited || s.headWaits }) ∧
  (∀ (s : State) (f : ImageFrame), s.stageInputs f =
    { table := s.gestureTable, reporting := s.pad.reporting, geometry := s.pad.geometry, now := f.arrival
      switchClosed := f.switchClosed, fresh := s.free
      masked := !(s.pad.reporting.mask.getLsbD (codeIn postureOrder s.posture)) }) ∧
  (∀ (s : State) (i : SurfaceId) (f : ImageFrame),
    let v := s.surface i
    let all := entriesOf i v.reporting v.geometry s.slots
    let full := v.reporting.mask.getLsbD (codeIn postureOrder s.posture) && v.reporting.mode != .gestures
    let entries := if full then all else all.filter (fun e => e.state == .up || e.state == .cancel)
    let due := entries ≠ [] ∨ (full = true ∧ i = .pad ∧ f.switchClosed ≠ s.switchReported)
    let o := s.offer f.sequence (low16 f.arrival) (.frameReport
      { surface := i, switchClosed := i == .pad && f.switchClosed, merged := 1, entries := entries })
    (¬ due → s.frameReport i f = s) ∧
    (due → o.1 = .deferred → s.frameReport i f = o.2 ∧ o.2.slots = s.slots ∧
      o.2.switchReported = s.switchReported) ∧
    (due → o.1 ≠ .deferred → (o.1 = .appended ∨ o.1 = .merged) ∧ s.frameReport i f = { o.2 with
      slots := s.slots.map (fun k => if k.ofSurface i then k.placed entries else k)
      switchReported := if i = .pad then f.switchClosed else s.switchReported })) ∧
  (∀ (entries : List FrameEntry) (k : Slot),
    ((∀ e ∈ entries, e.contact ≠ k.contact) → k.placed entries = k) ∧
    (∀ (n : Nat) (e : FrameEntry), entries[n]? = some e → e.contact = k.contact →
      (∀ (m : Nat) (d : FrameEntry), m < n → entries[m]? = some d → d.contact ≠ k.contact) →
      (e.state = .down → k.placed entries = { k with announced := true }) ∧
      (e.state = .move → k.placed entries = k) ∧
      ((e.state = .up ∨ e.state = .cancel) →
        (k.state = .ending → (k.placed entries).state = .free) ∧
        (k.state ≠ .ending → k.placed entries = { k with closing := none, announced := false, closed := true })))) ∧
  (∀ (i : SurfaceId) (k : Slot), k.candidate i = true ↔ k.surface = i ∧
    (k.state = .tentative ∨ k.state = .active ∨ k.state = .held ∨ k.state = .suppressed)) ∧
  (∀ (i : SurfaceId) (g : Geometry) (d : Detection) (n : Nat) (regions : List Region) (slots : List Slot) (next : Nat),
    let stopped : List Slot := slots.map (fun k =>
      if k.candidate i = true ∧ 8 < n then { k with vx := 0, vy := 0 } else k)
    let pairs := pairing i g d.trackGate n stopped regions
    let left := (regions.zipIdx).filterMap (fun (r, b) => if pairs.any (fun p => p.region == b) then none else some r)
    ∃ updated : List Slot, updated.length = slots.length ∧
      trackRegions i g d n regions slots next =
        left.foldl (Admission.region i d.contactLimit) { slots := updated, nextContact := next, refused := 0 } ∧
      (∀ (m : Nat) (k : Slot), stopped[m]? = some k →
        (k.candidate i = false → updated[m]? = some k) ∧
        (∀ p ∈ pairs, p.slot = m → ∀ r : Region, regions[p.region]? = some r → updated[m]? = some { k with
          state := if k.state = .held then .active else k.state
          vx := (r.x - k.x).tdiv n, vy := (r.y - k.y).tdiv n, x := r.x, y := r.y, area := r.area, peak := r.peak
          touch := r.touch, mark := k.mark || decide (r.touch = .palm ∨ r.touch = .grip ∨ r.touch = .large)
          age := min 65535 (k.age + 1), missing := 0 }) ∧
        (k.candidate i = true → (∀ p ∈ pairs, p.slot ≠ m) →
          let missing := if k.state = .active then 1 else k.missing + 1
          let held : Slot := { k with state := .held, missing := missing }
          let closing : Closing :=
            { kind := if k.mark = true then .cancel else .up, x := k.x, y := k.y, touch := k.touch, area := k.area,
              peak := k.peak, held := true }
          (k.state = .tentative → updated[m]? = some .cleared) ∧
          ((k.state = .active ∨ k.state = .held) →
            (missing ≤ d.coastFrames → updated[m]? = some held) ∧
            (d.coastFrames < missing →
              (k.closing ≠ none → updated[m]? = some { held with state := .ending, reason := none }) ∧
              (k.closing = none → k.announced = true → k.closed = false →
                updated[m]? = some { held with state := .ending, reason := none, closing := some closing }) ∧
              (k.closing = none → (k.announced = false ∨ k.closed = true) → updated[m]? = some .cleared))) ∧
          (k.state = .suppressed →
            (k.closing ≠ none → updated[m]? = some { k with state := .ending, reason := none }) ∧
            (k.closing = none → updated[m]? = some .cleared))))) ∧
  (∀ (i : SurfaceId) (limit : Nat) (a : Admission) (r : Region),
    let own := a.slots.countP (fun k => k.state != .free && k.surface == i)
    ((limit ≤ own ∨ ∀ k ∈ a.slots, k.state ≠ .free) →
      Admission.region i limit a r = { a with refused := a.refused + 1 }) ∧
    (own < limit → ∀ (m : Nat) (k : Slot), a.slots[m]? = some k → k.state = .free →
      (∀ (l : Nat) (j : Slot), l < m → a.slots[l]? = some j → j.state ≠ .free) →
      ∃ c : Nat,
        Admission.region i limit a r = { a with
          slots := a.slots.set m
            { state := .tentative, surface := i, contact := c, touch := r.touch
              mark := decide (r.touch = .palm ∨ r.touch = .grip ∨ r.touch = .large), reason := none, x := r.x, y := r.y
              firstX := r.x, firstY := r.y, vx := 0, vy := 0, area := r.area, peak := r.peak, age := 1, missing := 0
              announced := false, closed := false, closing := none }
          nextContact := if c = 255 then 1 else c + 1 } ∧
        (a.slots.length = 16 → 1 ≤ a.nextContact → a.nextContact ≤ 255 →
          1 ≤ c ∧ c ≤ 255 ∧ (∀ j ∈ a.slots, j.state ≠ .free → j.contact ≠ c) ∧
          (∀ passed, passed < (c + 255 - a.nextContact) % 255 → ∃ j ∈ a.slots, j.state ≠ .free ∧
            j.contact = (a.nextContact - 1 + passed) % 255 + 1)))) ∧
  (∀ (i : SurfaceId) (rep : Reporting) (g : Geometry) (slots : List Slot),
    entriesOf i rep g slots = (slots.filter (fun k => k.state != .free && k.surface == i)).filterMap (·.entry rep g)) ∧
  (∀ (rep : Reporting) (g : Geometry) (k : Slot),
    (∀ c : Closing, k.closing = some c → k.entry rep g = some
      { contact := k.contact, state := if c.kind = .up then .up else .cancel, touch := c.touch, held := c.held
        x := (logical rep g c.x c.y).1, y := (logical rep g c.x c.y).2, area := c.area, peak := c.peak }) ∧
    (k.closing = none → (k.state = .active ∨ k.state = .held) → k.closed = false → k.mark = false →
      k.entry rep g = some
        { contact := k.contact, state := if k.announced = true then .move else .down, touch := k.touch
          held := k.state == .held, x := (logical rep g k.x k.y).1, y := (logical rep g k.x k.y).2, area := k.area
          peak := k.peak }) ∧
    (k.closing = none → ((k.state ≠ .active ∧ k.state ≠ .held) ∨ k.closed = true ∨ k.mark = true) →
      k.entry rep g = none)) ∧
  (∀ (rep : Reporting) (g : Geometry) (x y : Int),
    let wx : Int := 64 * g.senseLines
    let wy : Int := 64 * g.driveLines
    let ox := if rep.invertX = true then wx - 1 - x else x
    let oy := if rep.invertY = true then wy - 1 - y else y
    (rep.swap = false → logical rep g x y = (ox * (rep.lx + 1) / wx, oy * (rep.ly + 1) / wy)) ∧
    (rep.swap = true → logical rep g x y = (oy * (rep.lx + 1) / wy, ox * (rep.ly + 1) / wx))) ∧
  (∀ s : State,
    (s.gesture.pendingEnd = none → s.retryEnd = s) ∧
    (∀ e : PendingEnd, s.gesture.pendingEnd = some e →
      let o := s.offer e.sequence e.timestamp (.gestureEnd e.number e.reason 1)
      s.retryEnd = { o.2 with gesture := { o.2.gesture with
        pendingEnd := if o.1 = .deferred then some e else none } })) ∧
  (∀ (s : State) (sequence : Byte) (timestamp : BitVec 16) (events : List GestureEvent),
    let told : State → GestureEvent → State := fun u e =>
      match e with
      | .ended number reason =>
        let o := u.offer sequence timestamp (.gestureEnd number reason 1)
        { o.2 with gesture := { o.2.gesture with
          pendingEnd := if o.1 = .deferred then some { number := number, reason := reason, sequence := sequence,
                                                       timestamp := timestamp } else none } }
      | .began b =>
        let o := u.offer sequence timestamp (.gestureBegin b)
        if o.1 = .dropped then { o.2 with gesture := { o.2.gesture with state := .blocked, committed := none } } else o.2
      | .tapped code fingers duration => (u.offer sequence timestamp (.tap code fingers duration 1)).2
      | .updated x => (u.offer sequence timestamp (.gestureUpdate x)).2
      | .pressed code fingers => (u.offer sequence timestamp (.press code fingers 1)).2
      | .released fingers => (u.offer sequence timestamp (.release fingers 1)).2
    s.offerEvents sequence timestamp events =
      (([0, 1, 2, 3, 4] : List Nat).flatMap (fun rank => events.filter (fun e => e.rank == rank))).foldl told s)

/-- R87, R88: a candidate and a region are eligible when the Manhattan distance from the prediction to the centroid is at
most track_gate; every pair taken is eligible, no slot and no region is paired twice, the pairs are taken in the order of
distance, slot index and region index, and an eligible pair that is not taken shares its slot or region with one taken
before it. -/
def Obligations.PairingTakesTheNearestFirst : Prop :=
  ∀ (i : SurfaceId) (g : Geometry) (gate n : Nat) (slots : List Slot) (regions : List Region),
    let taken := pairing i g gate n slots regions
    let eligible := fun p : Pair => ∃ k r, slots[p.slot]? = some k ∧ regions[p.region]? = some r ∧
      k.candidate i = true ∧
      (let px : Int := if n ≤ 8 then max 0 (min (64 * g.senseLines - 1) (k.x + k.vx * n)) else k.x
       let py : Int := if n ≤ 8 then max 0 (min (64 * g.driveLines - 1) (k.y + k.vy * n)) else k.y
       p.dist = (px - r.x).natAbs + (py - r.y).natAbs) ∧ p.dist ≤ gate
    (∀ p ∈ taken, eligible p) ∧
    taken.Pairwise (fun p q => p.slot ≠ q.slot ∧ p.region ≠ q.region ∧
      (p.dist < q.dist ∨ (p.dist = q.dist ∧ p.slot < q.slot))) ∧
    (∀ p : Pair, eligible p → p ∈ taken ∨ ∃ q ∈ taken, (q.slot = p.slot ∨ q.region = p.region) ∧
      (q.dist < p.dist ∨ (q.dist = p.dist ∧ (q.slot < p.slot ∨ (q.slot = p.slot ∧ q.region < p.region)))))

/-- R108 to R114: the rejection stage decides each slot of its surface by itself, first its promotion and then its frame. A
TENTATIVE slot of at least confirm_frames meets the promotion checks, and the first that applies gives the outcome: its
mark, the posture mask, a blocking admission zone, on PAD the typing guard, on PANEL the pen, a HESITANT admission zone on
PAD; otherwise it is ACTIVE. An ACTIVE or HELD slot then meets the per-frame checks: its mark, BLOCK_ALL in its current
zone, the posture mask, on PANEL the pen; the first gives the reason, and an announced slot that is not closed takes a
CANCEL unless it holds a closing. Every other slot, SUPPRESSED ones and the other surface's among them, passes unchanged.
R78, R117 to R119: the zone lookup and what the pen suppresses. R109, R118: the inputs that one stage reads. -/
def Obligations.RejectionStageDecidesEachSlot : Prop :=
  (∀ (q : RejectionInputs) (slots : List Slot),
    (q.stage slots).length = slots.length ∧
    (∀ (n : Nat) (k : Slot), slots[n]? = some k → (k.state = .suppressed ∨ k.surface ≠ q.surface) →
      (q.stage slots)[n]? = some k) ∧
    (∀ (n : Nat) (k : Slot), slots[n]? = some k →
      let suppressed := fun (w : Reason) => ({ k with state := .suppressed, reason := some w } : Slot)
      let admission := q.policyAt k.firstX k.firstY
      let travel := (k.firstX - k.x).natAbs + (k.firstY - k.y).natAbs
      let promoted : Slot :=
        if k.surface = q.surface ∧ k.state = .tentative ∧ q.confirmFrames ≤ k.age then
          if k.mark = true then suppressed .byClass
          else if q.postureMasked = true then suppressed .byPosture
          else if admission = .blockNew ∨ admission = .blockAll then suppressed .byZone
          else if q.surface = .pad ∧ q.guardRunning = true then suppressed .byTyping
          else if q.penSuppresses k.firstX k.firstY = true then suppressed .byPen
          else if q.surface = .pad ∧ admission = .hesitant ∧ travel < q.pad.hesitantTravel then
            if max q.confirmFrames q.pad.hesitantFrames ≤ k.age then suppressed .byZone else k
          else { k with state := .active }
        else k
      let cancelled := fun (w : Reason) => ({ promoted with
        state := .suppressed, reason := some w
        closing := if k.announced = true ∧ k.closed = false then
            some (k.closing.getD { kind := .cancel, x := k.x, y := k.y, touch := k.touch, area := k.area, peak := k.peak
                                   held := k.state == .held })
          else k.closing } : Slot)
      let decided : Slot :=
        if k.surface = q.surface ∧ (promoted.state = .active ∨ promoted.state = .held) then
          if k.mark = true then cancelled .byClass
          else if q.policyAt k.x k.y = .blockAll then cancelled .byZone
          else if q.postureMasked = true then cancelled .byPosture
          else if q.penSuppresses k.x k.y = true then cancelled .byPen
          else promoted
        else promoted
      (q.stage slots)[n]? = some decided)) ∧
  (∀ (q : RejectionInputs) (x y : Int),
    let inside := fun (e : ZoneEntry) => e.used = true ∧
      (e.x0 : Int) ≤ x ∧ x ≤ min (e.x1 : Int) (64 * q.geometry.senseLines - 1) ∧
      (e.y0 : Int) ≤ y ∧ y ≤ min (e.y1 : Int) (64 * q.geometry.driveLines - 1)
    ((∀ e ∈ q.zones, ¬ inside e) → q.policyAt x y = .openZone) ∧
    (∀ (m : Nat) (e : ZoneEntry), q.zones[m]? = some e → inside e →
      (∀ (l : Nat) (d : ZoneEntry), l < m → q.zones[l]? = some d → ¬ inside d) →
      q.policyAt x y = (match q.posture with
        | .laptop => e.laptop
        | .stand => e.stand
        | .tent => e.tent
        | .tablet => e.tablet
        | .closed => e.closed))) ∧
  (∀ (q : RejectionInputs) (x y : Int),
    let b := q.panel
    q.penSuppresses x y = true ↔ q.surface = .panel ∧ ∃ cx cy : Int, q.penCentre = some (cx, cy) ∧
      (b.penMode = .all ∨ (b.penMode = .area ∧
        max 0 (if b.handedness = .right then cx - b.back else cx - b.ahead) ≤ x ∧
        x ≤ min (if b.handedness = .right then cx + b.ahead else cx + b.back) (64 * q.geometry.senseLines - 1) ∧
        max 0 (cy - b.above) ≤ y ∧ y ≤ min (cy + b.below) (64 * q.geometry.driveLines - 1)))) ∧
  (∀ (s : State) (i : SurfaceId),
    s.rejectionInputs i =
      { surface := i, geometry := (s.surface i).geometry, zones := (s.surface i).zoneMap
        confirmFrames := (s.surface i).detection.confirmFrames, posture := s.posture
        postureMasked := !((s.surface i).reporting.mask.getLsbD (codeIn postureOrder s.posture))
        guardRunning := s.guard.isSome, pad := s.padRejection, panel := s.panelRejection
        penCentre := if s.pen.state = .outOfRange then s.linger.map (fun l => (l.x, l.y)) else some (s.pen.x, s.pen.y) })

/-- R100, R139: a position on the surface is reported within 0..LX and 0..LY, and the pressure output of a
non-decreasing curve lies between its neighbouring points and rises with the raw pressure. -/
def Obligations.ReportedValuesStayInRange : Prop :=
  (∀ (rep : Reporting) (g : Geometry) (x y : Int), 0 ≤ x → x < 64 * g.senseLines → 0 ≤ y → y < 64 * g.driveLines →
    0 ≤ (logical rep g x y).1 ∧ (logical rep g x y).1 ≤ rep.lx ∧
    0 ≤ (logical rep g x y).2 ∧ (logical rep g x y).2 ≤ rep.ly) ∧
  (∀ (curve : List CurvePoint), curve.length = 9 → (∀ p ∈ curve, p.loaded = true) → curveDecreases curve = false →
    ∀ r r' : Nat, r ≤ r' → r' ≤ 4095 →
      curveOutput curve r ≤ curveOutput curve r' ∧
      ((curve.getD (r / 512) .atReset).value : Int) ≤ curveOutput curve r ∧
      curveOutput curve r ≤ ((curve.getD (r / 512 + 1) .atReset).value : Int))

/-- R148, R159, R160: one gesture stage emits at most one event of each rank, never an END with a BEGIN, no BEGIN while
an END is pending, and in report mode CONTACTS it sets switch seen and does nothing else. R149: the participants and the
group features.
R151 to R155, R157, with an unchanged switch (O35 says what a change adds): a cause of cancellation blocks the engine, with
END CANCELLED from COMMITTED; a BLOCKED engine waits for PAD to clear. A first participant begins an episode. In GATHERING
the first entry whose conditions hold, once the count has settled and no END is pending, commits and emits BEGIN with its
capture; the last participant's leaving emits the first TAP that fits, if the episode may still end in one. In COMMITTED
an unchanged count emits UPDATE, and a changed one END NORMAL. Where the spec names no anchor, for no participant, its
place and spread are free (notes/assumptions/11.md), and so is a spread change that does not fit its field
(notes/assumptions/29.md); that a stage that stops leaves anchor and hold count is the model's choice
(notes/assumptions/30.md), and that a COMMITTED stage raises greatest count and finger travel is DEDUCED
(notes/assumptions/18.md). -/
def Obligations.GestureStageEmitsItsEvents : Prop :=
  (∀ (q : StageInputs) (g : Gesture) (slots : List Slot),
    let r := gestureStage q g slots
    (∀ n, (r.events.countP (fun e => e.rank == n)) ≤ 1) ∧
    ¬ ((∃ e ∈ r.events, e.rank = 0) ∧ (∃ e ∈ r.events, e.rank = 2)) ∧
    (g.pendingEnd ≠ none → ∀ e ∈ r.events, e.rank ≠ 2) ∧
    (q.reporting.mode = .contacts →
      r = { engine := { g with switchSeen := q.switchClosed }, slots := slots, events := [] }) ∧
    (q.reporting.mode ≠ .contacts →
      r.engine.members = (groupOf slots).members ∧ r.engine.switchSeen = q.switchClosed)) ∧
  (∀ e : GestureEvent, e.rank = (match e with
    | .ended _ _ => 0
    | .tapped _ _ _ => 1
    | .began _ => 2
    | .updated _ => 3
    | .pressed _ _ => 4
    | .released _ => 4)) ∧
  (∀ k : Slot, k.participates = true ↔ k.surface = .pad ∧ (k.state = .active ∨ k.state = .held) ∧
    (k.touch = .finger ∨ k.touch = .unknown)) ∧
  (∀ slots : List Slot,
    let p := groupOf slots
    let parts := (slots.zipIdx).filter (fun k => k.1.participates)
    let own := fun (k : Slot × Nat) => (k.1.firstX - k.1.x).natAbs + (k.1.firstY - k.1.y).natAbs
    p.members = parts.map (fun k => (k.2, k.1.contact)) ∧ p.count = parts.length ∧
    (1 ≤ p.count →
      p.x = (2 * (parts.map (fun k => k.1.x)).sum + p.count) / (2 * p.count) ∧
      p.y = (2 * (parts.map (fun k => k.1.y)).sum + p.count) / (2 * p.count) ∧
      p.spread = (parts.map (fun k => (((k.1.x - p.x).natAbs + (k.1.y - p.y).natAbs : Nat) : Int))).sum / p.count ∧
      (∃ k ∈ parts, p.farthest = own k)) ∧
    (∀ k ∈ parts, own k ≤ p.farthest)) ∧
  (∀ (q : StageInputs) (g : Gesture) (slots : List Slot), q.reporting.mode ≠ .contacts →
    let r := gestureStage q g slots
    let p := groupOf slots
    let last := fun (e : Gesture) => ({ e with members := p.members, switchSeen := q.switchClosed } : Gesture)
    let quiet := fun (e : Gesture) => ({ engine := last e, slots := slots, events := [] } : StageResult)
    let cause := q.masked = true ∨ ∃ m ∈ g.members, ∃ k : Slot, slots[m.1]? = some k ∧ k.contact = m.2 ∧
      k.state = .suppressed
    let clear := ∀ k ∈ slots, k.surface = .pad → k.state = .free ∨ k.state = .ending
    let anchored := fun (e : Gesture) => ({ e with
      anchorX := p.x, anchorY := p.y, anchorSpread := p.spread, anchorTime := q.now, hold := 1 } : Gesture)
    let unplaced := fun (e : Gesture) => ({ e with
      anchorX := r.engine.anchorX, anchorY := r.engine.anchorY, anchorSpread := r.engine.anchorSpread
      anchorTime := q.now, hold := 1 } : Gesture)
    let raised := fun (e : Gesture) => ({ e with
      greatest := max e.greatest p.count, fingerTravel := max e.fingerTravel (min 65535 p.farthest) } : Gesture)
    let held := { g with hold := min 255 (g.hold + 1) }
    let (x, y) := logical q.reporting q.geometry p.x p.y
    let gathers : Gesture → Prop := fun e =>
      let dx := p.x - e.anchorX
      let dy := p.y - e.anchorY
      let travel := dx.natAbs + dy.natAbs
      let change := p.spread - e.anchorSpread
      let direction : Direction :=
        if dy.natAbs ≤ dx.natAbs then (if 0 ≤ dx then .right else .left) else (if 0 < dy then .down else .up)
      let commits := fun (a : GestureEntry) => a.used = true ∧ a.fingers = p.count ∧
        (a.maxTime = 0 ∨ (q.now - e.anchorTime).toNat ≤ a.maxTime) ∧
        ((a.kind = .drag ∧ a.threshold ≤ travel ∧ change.natAbs ≤ a.limit ∧
            (a.direction = .any ∨ a.direction = direction)) ∨
          (a.kind = .pinch ∧ a.threshold ≤ change.natAbs ∧ travel ≤ a.limit ∧
            (a.direction = .either ∨ (a.direction = .inward ∧ change < 0) ∨ (a.direction = .outward ∧ 0 < change))))
      let number := if g.number % 256 = 255 then 0 else g.number % 256 + 1
      ((e.hold < q.reporting.settleFrames ∨ g.pendingEnd ≠ none ∨ ∀ a ∈ q.table, ¬ commits a) → r = quiet e) ∧
      (q.reporting.settleFrames ≤ e.hold → g.pendingEnd = none →
        ∀ (m : Nat) (a : GestureEntry), q.table[m]? = some a → commits a →
          (∀ (l : Nat) (b : GestureEntry), l < m → q.table[l]? = some b → ¬ commits b) →
          r = {
            engine := last { e with
              state := .committed, number := number, tapEligible := false
              committed := some { kind := a.kind, code := a.code, x := p.x, y := p.y, spread := p.spread } }
            slots := if a.capture = false then slots else slots.map (fun k =>
              if k.participates = true ∧ k.closed = false then
                if k.announced = true then { k with
                  closing := some (k.closing.getD { kind := .cancel, x := k.x, y := k.y, touch := k.touch, area := k.area
                                                    peak := k.peak, held := k.state == .held }) }
                else { k with closed := true }
              else k)
            events := [.began {
              number := number, kind := a.kind, code := a.code, fingers := p.count
              direction := if a.kind = .drag then direction else if change < 0 then .inward else .outward
              x := x, y := y, merged := 1 }] })
    (cause → r = { quiet { g with state := .blocked, committed := none } with
      events := if g.state = .committed then [.ended g.number .cancelled] else [] }) ∧
    (¬ cause → g.state = .blocked → ¬ clear → r = quiet g) ∧
    (¬ cause → q.switchClosed = g.switchSeen →
      (g.state = .blocked → clear → r = quiet { g with
        state := .idle, hold := 0, greatest := 0, fingerTravel := 0, tapEligible := false }) ∧
      (g.state = .idle → p.count = 0 → r = quiet g) ∧
      (g.state = .idle → 1 ≤ p.count → gathers { anchored g with
        state := .gathering, episodeStart := q.now, greatest := p.count, fingerTravel := min 65535 p.farthest
        tapEligible := true }) ∧
      (g.state = .gathering → 1 ≤ p.count → p.count = g.members.length → gathers (raised held)) ∧
      (g.state = .gathering → 1 ≤ p.count → p.count ≠ g.members.length → gathers (raised (anchored g))) ∧
      (g.state = .gathering → p.count = 0 →
        let duration := (q.now - g.episodeStart).toNat
        let taps := fun (a : GestureEntry) => a.used = true ∧ a.kind = .tap ∧ a.fingers = g.greatest ∧
          g.fingerTravel ≤ a.threshold ∧ (a.maxTime = 0 ∨ duration ≤ a.maxTime)
        let after := last { (if g.members = [] then held else unplaced g) with state := .idle }
        ((g.tapEligible = false ∨ ∀ a ∈ q.table, ¬ taps a) → r = { engine := after, slots := slots, events := [] }) ∧
        (g.tapEligible = true → ∀ (m : Nat) (a : GestureEntry), q.table[m]? = some a → taps a →
          (∀ (l : Nat) (b : GestureEntry), l < m → q.table[l]? = some b → ¬ taps b) →
          r = { engine := after, slots := slots, events := [.tapped a.code g.greatest (min 65535 duration)] })) ∧
      (g.state = .committed → p.count = 0 →
        r = { quiet { unplaced g with state := .idle, committed := none } with events := [.ended g.number .normal] }) ∧
      (g.state = .committed → 1 ≤ p.count → p.count ≠ g.members.length →
        r = { quiet { raised (anchored g) with state := .gathering, committed := none } with
          events := [.ended g.number .normal] }) ∧
      (∀ c : Committed, g.state = .committed → g.committed = some c → 1 ≤ p.count → p.count = g.members.length →
        let (rx, ry) := logical q.reporting q.geometry c.x c.y
        let extent : Int := 64 * (if q.reporting.swap = true then q.geometry.driveLines else q.geometry.senseLines : Nat)
        let scaled := fun (spread : Int) => spread * (q.reporting.lx + 1) / extent
        let change := scaled p.spread - scaled c.spread
        ∃ dspread : Int, (-32768 ≤ change → change ≤ 32767 → dspread = change) ∧
          r = { quiet { raised held with committed := some { c with x := p.x, y := p.y, spread := p.spread } } with
            events := [.updated { number := g.number, dx := x - rx, dy := y - ry, dspread := dspread
                                  fingers := p.count, merged := 1 }] })))

/-- R156: a stage that is not stopped at its cancellation or return test emits PRESS at a change of the switch from open
to closed, with the code of the first used PRESS entry for the finger count or 0, and clears tap eligible; it emits
RELEASE at a change from closed to open. Either comes beside what the stage does with an unchanged switch, which emits
neither; a stopped stage emits neither. Switch seen follows the switch. -/
def Obligations.ClickSwitchGivesPressAndRelease : Prop :=
  ∀ (q : StageInputs) (g : Gesture) (slots : List Slot), q.reporting.mode ≠ .contacts →
    let n := (slots.filter Slot.participates).length
    let calm := gestureStage { q with switchClosed := g.switchSeen } g slots
    let stopped := memberSuppressed g.members slots = true ∨ q.masked = true ∨
      (g.state = .blocked ∧ ∃ k ∈ slots, k.candidate .pad = true)
    let presses := fun e : GestureEntry => e.used = true ∧ e.kind = .press ∧ e.fingers = n
    (∀ e ∈ calm.events, e.rank ≠ 4) ∧
    ((stopped ∨ q.switchClosed = g.switchSeen) →
      gestureStage q g slots = { calm with engine := { calm.engine with switchSeen := q.switchClosed } }) ∧
    (¬ stopped → q.switchClosed = true → g.switchSeen = false → ∃ code : Nat,
      gestureStage q g slots =
        { calm with
          engine := { calm.engine with switchSeen := true, tapEligible := false }
          events := calm.events ++ [.pressed code n] } ∧
      ((∀ e ∈ q.table, ¬ presses e) → code = 0) ∧
      (∀ (m : Nat) (e : GestureEntry), q.table[m]? = some e → presses e →
        (∀ (l : Nat) (d : GestureEntry), l < m → q.table[l]? = some d → ¬ presses d) → code = e.code)) ∧
    (¬ stopped → q.switchClosed = false → g.switchSeen = true →
      gestureStage q g slots =
        { calm with
          engine := { calm.engine with switchSeen := false }
          events := calm.events ++ [.released n] })

/-! ## The pen -/

/-- R131: from a CLEAN word, any one flipped bit is CORRECTED with the data unharmed, and any two are uncorrectable. R130,
R131: the outcome of every word by its syndrome and its parity, and the positions of the data fields. That four or more
errors of even number follow the same table is DEDUCED (notes/assumptions/26.md). -/
def Obligations.PenWordsDecodeByTheirSyndrome : Prop :=
  (∀ (w : BitVec 26) (d : PenData), decodeWord w = .usable .clean d →
    (∀ n, n < 26 → decodeWord (w ^^^ (1#26 <<< n)) = .usable .corrected d) ∧
    (∀ m n, m < n → n < 26 → decodeWord (w ^^^ (1#26 <<< m) ^^^ (1#26 <<< n)) = .uncorrectable)) ∧
  (∀ w : BitVec 26,
    let ones := (List.range 26).filter (fun n => w.getLsbD n)
    let s := ones.foldl (· ^^^ ·) 0
    let odd := ones.length % 2 = 1
    let number := fun (c : BitVec 26) (places : List Nat) =>
      ((places.zipIdx).map (fun p => if c.getLsbD p.1 = true then 2 ^ p.2 else 0)).sum
    let fields := fun (c : BitVec 26) =>
      ({ raw := number c [3, 5, 6, 7, 9, 10, 11, 12, 13, 14, 15, 17], tip := c.getLsbD 18, barrel := c.getLsbD 19
         eraser := c.getLsbD 20, batteryLow := c.getLsbD 21, tag := number c [22, 23, 24, 25] } : PenData)
    (s = 0 → ¬ odd → decodeWord w = .usable .clean (fields w)) ∧
    (s = 0 → odd → decodeWord w = .usable .corrected (fields w)) ∧
    (1 ≤ s → s ≤ 25 → odd → decodeWord w = .usable .corrected (fields (w ^^^ (1#26 <<< s)))) ∧
    (26 ≤ s → odd → decodeWord w = .uncorrectable) ∧
    (1 ≤ s → ¬ odd → decodeWord w = .uncorrectable))

/-- R129, R132, R134 to R136: a PEN frame with signal puts the pen in CONTACT or HOVER by its tip at the interpolated
position; a usable word replaces the data, and otherwise the data is held and ages, losing tip and pressure past 8
periods. The linger state becomes absent. R131 to R133: a corrected word is counted, and an uncorrectable one is counted and
raises PEN_UNCORRECTABLE with its syndrome and parity. R139 to R141: in a posture of PANEL's mask the pen's report is
offered, from the record as the frame leaves it; in any other none is. R128, R129: the peak of a profile and the position
on its axis. -/
def Obligations.PenFrameWithSignalPlacesThePen : Prop :=
  (∀ (s : State) (f : PenFrame), s.started = true → s.panel.penFlight = some f →
    let v := s.panel
    let sense := v.senseProfile f.samples
    let drive := v.driveProfile f.samples
    let reportOf := fun (p : PenRecord) =>
      let o := fun (n : Nat) => ((s.curve.getD n .atReset).value : Int)
      let k := p.raw / 512
      ({ state := p.state, x := (logical v.reporting v.geometry p.x p.y).1
         y := (logical v.reporting v.geometry p.x p.y).2
         pressure := if p.state = .contact then o k + ((p.raw : Int) - 512 * k) * (o (k + 1) - o k) / 512 else 0
         tip := if p.state = .outOfRange then false else p.tip, barrel := p.barrel, eraser := p.eraser
         batteryLow := p.batteryLow, coasting := p.coasting, tag := p.tag, quality := p.quality, merged := 1 } : PenReport)
    (s.penBlock.hoverThreshold : Int) ≤ (profilePeak sense).1 →
    (s.penBlock.hoverThreshold : Int) ≤ (profilePeak drive).1 →
    ∃ t, exec .penStage s = .next t ∧
      t.pen.state = (if t.pen.tip then .contact else .hover) ∧
      t.pen.x = axisPosition sense (64 * v.geometry.senseLines) ∧
      t.pen.y = axisPosition drive (64 * v.geometry.driveLines) ∧
      t.pen.coasting = false ∧ t.pen.missing = 0 ∧ t.pen.lastSequence = f.sequence ∧ t.linger = none ∧
      (∀ w q d, f.word = some w → decodeWord w = .usable q d →
        t.pen.quality = q ∧ t.pen.dataAge = 0 ∧ t.pen.raw = d.raw ∧ t.pen.tip = d.tip ∧ t.pen.barrel = d.barrel ∧
        t.pen.eraser = d.eraser ∧ t.pen.batteryLow = d.batteryLow ∧ t.pen.tag = d.tag) ∧
      ((f.word = none ∨ ∃ w, f.word = some w ∧ decodeWord w = .uncorrectable) →
        t.pen.quality = .held ∧ t.pen.dataAge = min 255 (s.pen.dataAge + f.elapsed) ∧
        t.pen.barrel = s.pen.barrel ∧ t.pen.eraser = s.pen.eraser ∧ t.pen.batteryLow = s.pen.batteryLow ∧
        t.pen.tag = s.pen.tag ∧
        t.pen.tip = (if 8 < min 255 (s.pen.dataAge + f.elapsed) then false else s.pen.tip) ∧
        t.pen.raw = (if 8 < min 255 (s.pen.dataAge + f.elapsed) then 0 else s.pen.raw)) ∧
      t.panel = { v with
        penSlot := if s.holdsPen .panel then v.penSlot else none
        penFlight := if s.holdsPen .panel then none else v.penSlot } ∧
      t = { s with
            panel := t.panel, pen := t.pen, linger := none, penCorrected := t.penCorrected,
            penUncorrectable := t.penUncorrectable, queue := t.queue, attn := t.attn, mergedCount := t.mergedCount,
            deferredCount := t.deferredCount, droppedCount := t.droppedCount, fault := t.fault,
            headWaited := s.headWaited || s.headWaits } ∧
      (∃ counted : State,
        (f.word = none → counted = s) ∧
        (∀ w d, f.word = some w → decodeWord w = .usable .clean d → counted = s) ∧
        (∀ w d, f.word = some w → decodeWord w = .usable .corrected d →
          counted = { s with penCorrected := min 65535 (s.penCorrected + 1) }) ∧
        (∀ w, f.word = some w → decodeWord w = .uncorrectable →
          let ones := (List.range 26).filter (fun n => w.getLsbD n)
          counted = { s with penUncorrectable := min 65535 (s.penUncorrectable + 1) }.raiseFault .penUncorrectable .pen
            f.sequence (ones.foldl (· ^^^ ·) 0 + 32 * (ones.length % 2))) ∧
        (let done : State := { counted with
            pen := t.pen, linger := none, panel := { v with penFlight := none }
            headWaited := s.headWaited || s.headWaits }
         let reported : State :=
          if v.reporting.mask.getLsbD (codeIn postureOrder s.posture) = true then
            (done.offer f.sequence (low16 f.arrival) (.penReport (reportOf t.pen))).2
          else done
         t = reported.takePen .panel))) ∧
  (∀ (profile : List Int) (extent : Int), profile ≠ [] → ∃ (line : Nat) (top : Int),
    profilePeak profile = (top, line) ∧ profile[line]? = some top ∧
    (∀ (m : Nat) (x : Int), profile[m]? = some x → x ≤ top ∧ (m < line → x < top)) ∧
    (let lower := if line = 0 then 0 else profile.getD (line - 1) 0
     let upper := profile.getD (line + 1) 0
     let bend := 2 * top - lower - upper
     let offset := if bend = 0 then 0 else (2 * (32 * (upper - lower)) + bend) / (2 * bend)
     axisPosition profile extent = max 0 (min (extent - 1) (64 * line + 32 + max (-32) (min 31 offset)))))

/-- R134, R137, R120: a PEN frame without signal leaves a pen out of range where it is, lets one in range coast while
its missing count stays within pen_hold, and otherwise takes it out of range, clears its data and sets the linger state
from the position held. R139 to R141: in a posture of PANEL's mask a pen that coasts, or that leaves, is reported from the
record as the state machine left it, before its data is cleared, with tip and pressure clear when it left; a pen that was
out of range is not reported, and no frame without signal counts a word or raises a fault of it. -/
def Obligations.PenFrameWithoutSignalCoastsOrLeaves : Prop :=
  ∀ (s : State) (f : PenFrame), s.started = true → s.panel.penFlight = some f →
    ((profilePeak (s.panel.senseProfile f.samples)).1 < s.penBlock.hoverThreshold ∨
      (profilePeak (s.panel.driveProfile f.samples)).1 < s.penBlock.hoverThreshold) →
    let aged : PenRecord :=
      { s.pen with quality := .held, dataAge := min 255 (s.pen.dataAge + f.elapsed), lastSequence := f.sequence }
    let v := s.panel
    let reportOf := fun (p : PenRecord) =>
      let o := fun (n : Nat) => ((s.curve.getD n .atReset).value : Int)
      let k := p.raw / 512
      ({ state := p.state, x := (logical v.reporting v.geometry p.x p.y).1
         y := (logical v.reporting v.geometry p.x p.y).2
         pressure := if p.state = .contact then o k + ((p.raw : Int) - 512 * k) * (o (k + 1) - o k) / 512 else 0
         tip := if p.state = .outOfRange then false else p.tip, barrel := p.barrel, eraser := p.eraser
         batteryLow := p.batteryLow, coasting := p.coasting, tag := p.tag, quality := p.quality, merged := 1 } : PenReport)
    ∃ t, exec .penStage s = .next t ∧
      (s.pen.state = .outOfRange → t.pen = aged ∧ t.linger = s.linger ∧ t.queue = s.queue) ∧
      (s.pen.state ≠ .outOfRange → s.pen.missing + f.elapsed ≤ s.penBlock.penHold →
        t.pen = { aged with missing := s.pen.missing + f.elapsed, coasting := true } ∧ t.linger = s.linger) ∧
      (s.pen.state ≠ .outOfRange → s.penBlock.penHold < s.pen.missing + f.elapsed →
        t.pen = { aged.clearData with state := .outOfRange, coasting := false, missing := 0 } ∧
        t.linger = (if s.panelRejection.linger = 0 then none
          else some { deadline := s.time + BitVec.ofNat 32 s.panelRejection.linger, x := s.pen.x, y := s.pen.y })) ∧
      t.panel = { s.panel with
        penSlot := if s.holdsPen .panel then s.panel.penSlot else none
        penFlight := if s.holdsPen .panel then none else s.panel.penSlot } ∧
      t = { s with
            panel := t.panel, pen := t.pen, linger := t.linger, queue := t.queue, attn := t.attn,
            mergedCount := t.mergedCount, deferredCount := t.deferredCount, droppedCount := t.droppedCount,
            fault := t.fault,
            headWaited := s.headWaited || s.headWaits } ∧
      (let done : State := { s with
          pen := t.pen, linger := t.linger, panel := { v with penFlight := none }
          headWaited := s.headWaited || s.headWaits }
       let shown : PenRecord :=
        if t.pen.state = .outOfRange then { aged with state := .outOfRange, coasting := false, missing := 0 } else t.pen
       let reported : State :=
        if s.pen.state ≠ .outOfRange ∧ v.reporting.mask.getLsbD (codeIn postureOrder s.posture) = true then
          (done.offer f.sequence (low16 f.arrival) (.penReport (reportOf shown))).2
        else done
       t = reported.takePen .panel)

/-! ## The report queue -/

/-- R163: the outcome of an offer by the general count and the kind of record; QUEUE_DROP is not in the default capture
mask. -/
def Obligations.OffersMeetTheirOutcome : Prop :=
  QueueBlock.atReset.captureMask.getLsbD (codeIn faultKindOrder .queueDrop) = false ∧
  ∀ (s : State) (sequence : Byte) (timestamp : BitVec 16) (b : Body),
    (s.generalCount < s.queueBlock.almostFull →
      s.offer sequence timestamp b = (.appended, s.append sequence timestamp b)) ∧
    (s.queueBlock.almostFull ≤ s.generalCount →
      (∀ q, s.mergedQueue sequence timestamp b = some q →
        s.offer sequence timestamp b =
          (.merged, { s.withQueue q with mergedCount := min 65535 (s.mergedCount + 1) })) ∧
      (s.mergedQueue sequence timestamp b = none →
        (s.generalCount < 59 → s.offer sequence timestamp b = (.appended, s.append sequence timestamp b)) ∧
        (59 ≤ s.generalCount →
          ((b.kindCode = 1 ∨ b.kindCode = 5) → s.offer sequence timestamp b =
            (.deferred, { s with deferredCount := min 65535 (s.deferredCount + 1) })) ∧
          (b.kindCode ≠ 1 → b.kindCode ≠ 5 → s.offer sequence timestamp b =
            (.dropped, { s with droppedCount := min 65535 (s.droppedCount + 1) }.raiseFault .queueDrop .queue
              sequence b.kindCode)))))

/-- R164, R165: a merge acts on the newest unread record of its kind (and surface), which keeps its place and placement
time and takes the new sequence and timestamp; every other record stands; a merged frame report holds at most 16
entries and the switch state of both. Frame reports merge when every two entries of one contact are a pair of R164's table,
the switch states agree and at most 16 entries result, and not otherwise: DOWN with MOVE gives DOWN with the new entry's
fields, MOVE with MOVE, UP or CANCEL gives the new entry, an entry with no partner stands, and the added ones follow. The
other way round, the newest record of its kind (and surface), when it is not under delivery, takes a body that may merge
with it: a pen report of the same state and buttons, an UPDATE of the same instance, or a frame report whose entries
merge. -/
def Obligations.MergesRewriteOneUnreadRecord : Prop :=
  (∀ (s : State) (sequence : Byte) (timestamp : BitVec 16) (b : Body) (q : List Record),
    s.mergedQueue sequence timestamp b = some q →
    ∃ (n : Nat) (old new : Record), s.queue[n]? = some old ∧ q = s.queue.set n new ∧
      (b.kindCode = 1 ∨ b.kindCode = 2 ∨ b.kindCode = 4) ∧ old.body.kindCode = b.kindCode ∧
      new.body.kindCode = b.kindCode ∧ new.placed = old.placed ∧ new.sequence = sequence ∧
      new.timestamp = timestamp ∧ (s.delivering = true → n ≠ 0) ∧
      (∀ m r, n < m → s.queue[m]? = some r → b.targets r = false) ∧
      (∀ x y z, b = .frameReport x → old.body = .frameReport y → new.body = .frameReport z →
        x.surface = y.surface ∧ z.surface = y.surface ∧ x.switchClosed = y.switchClosed ∧
        z.switchClosed = y.switchClosed ∧ z.entries.length ≤ 16 ∧ z.merged = min 255 (y.merged + x.merged)) ∧
      (∀ x y z, b = .gestureUpdate x → old.body = .gestureUpdate y → new.body = .gestureUpdate z →
        z.number = y.number ∧ x.number = y.number ∧ z.dx = max (-32768) (min 32767 (y.dx + x.dx)) ∧
        z.dy = max (-32768) (min 32767 (y.dy + x.dy)) ∧
        z.dspread = max (-32768) (min 32767 (y.dspread + x.dspread)) ∧ z.fingers = x.fingers ∧
        z.merged = min 255 (y.merged + x.merged)) ∧
      (∀ x y z, b = .penReport x → old.body = .penReport y → new.body = .penReport z →
        z = { x with merged := min 255 (y.merged + x.merged) } ∧ x.state = y.state ∧ x.tip = y.tip ∧
        x.barrel = y.barrel ∧ x.eraser = y.eraser ∧ x.batteryLow = y.batteryLow)) ∧
  (∀ y x : FrameReport, (y.entries.map (·.contact)).Nodup → (x.entries.map (·.contact)).Nodup →
    let allowed := fun (e n : FrameEntry) => (e.state = .down ∧ n.state = .move) ∨ (e.state = .move ∧ n.state ≠ .down)
    let added := x.entries.filter (fun n => y.entries.all (fun e => e.contact != n.contact))
    ((mergeFrameReport y x).isSome = true ↔
      y.switchClosed = x.switchClosed ∧ y.entries.length + added.length ≤ 16 ∧
        ∀ e ∈ y.entries, ∀ n ∈ x.entries, n.contact = e.contact → allowed e n) ∧
    (∀ z, mergeFrameReport y x = some z →
      z.entries.drop y.entries.length = added ∧
      (∀ (m : Nat) (e : FrameEntry), y.entries[m]? = some e →
        ((∀ n ∈ x.entries, n.contact ≠ e.contact) → z.entries[m]? = some e) ∧
        (∀ n ∈ x.entries, n.contact = e.contact →
          (e.state = .down → z.entries[m]? = some { n with state := .down }) ∧
          (e.state = .move → z.entries[m]? = some n))))) ∧
  (∀ (b : Body) (r : Record), b.targets r = true ↔
    (∃ x y, b = .frameReport x ∧ r.body = .frameReport y ∧ x.surface = y.surface) ∨
    (∃ x y, b = .penReport x ∧ r.body = .penReport y) ∨ (∃ x y, b = .gestureUpdate x ∧ r.body = .gestureUpdate y)) ∧
  (∀ (s : State) (sequence : Byte) (timestamp : BitVec 16) (b : Body) (n : Nat) (old : Record),
    s.queue[n]? = some old → (∀ m r, n < m → s.queue[m]? = some r → b.targets r = false) →
    (s.delivering = true → n ≠ 0) →
    let merges := fun (z : Body) => s.mergedQueue sequence timestamp b =
      some (s.queue.set n { old with sequence := sequence, timestamp := timestamp, body := z })
    (∀ x y z, b = .frameReport x → old.body = .frameReport y → x.surface = y.surface → mergeFrameReport y x = some z →
      merges (.frameReport z)) ∧
    (∀ x y, b = .penReport x → old.body = .penReport y → x.state = y.state → x.tip = y.tip → x.barrel = y.barrel →
      x.eraser = y.eraser → x.batteryLow = y.batteryLow →
      merges (.penReport { x with merged := min 255 (y.merged + x.merged) })) ∧
    (∀ x y, b = .gestureUpdate x → old.body = .gestureUpdate y → x.number = y.number →
      merges (.gestureUpdate { number := y.number, dx := max (-32768) (min 32767 (y.dx + x.dx))
                               dy := max (-32768) (min 32767 (y.dy + x.dy))
                               dspread := max (-32768) (min 32767 (y.dspread + x.dspread)), fingers := x.fingers
                               merged := min 255 (y.merged + x.merged) })))

/-- R181: a fault outside the mask changes nothing; one in the mask fills an empty record and appends an ALERT when none
is present, or sets the more flag of a full one. -/
def Obligations.FaultsAreCapturedOnce : Prop :=
  ∀ (s : State) (kind : FaultKind) (source : FaultSource) (sequence : Byte) (detail : Nat),
    let f : FaultRecord := { kind := kind, source := source, sequence := sequence, detail := detail,
                             timestamp := low16 s.time, more := false }
    let alert : Record := { sequence := sequence, timestamp := low16 s.time, placed := s.time, body := .alert f }
    (s.queueBlock.captureMask.getLsbD (codeIn faultKindOrder kind) = false →
      s.raiseFault kind source sequence detail = s) ∧
    (s.queueBlock.captureMask.getLsbD (codeIn faultKindOrder kind) = true →
      (∀ g, s.fault = some g →
        s.raiseFault kind source sequence detail = { s with fault := some { g with more := true } }) ∧
      (s.fault = none →
        ((∃ r ∈ s.queue, r.body.kindCode = 11) →
          s.raiseFault kind source sequence detail = { s with fault := some f }) ∧
        ((∀ r ∈ s.queue, r.body.kindCode ≠ 11) →
          s.raiseFault kind source sequence detail =
            { s with fault := some f, queue := s.queue ++ [alert], attn := s.started })))

/-- R166, R175, R25, R176: an answer appends the RESPONSE with the request's tag and code, takes the request from the
buffer, and puts in flight each waiting frame that has its kind free and is not held by the new head; the pin follows. A
REBASE at the head holds the IMAGE frames of its surface, and a write of a deferrable block both kinds, while it waits for
a frame in flight of those kinds and, once it has waited, until it leaves the buffer; no other head holds any. That the
waiting frames are taken together, by what the new head holds before them, is the model's reading
(notes/assumptions/8.md). -/
def Obligations.AnswersPlaceOneResponse : Prop :=
  (∀ (s : State) (r : Request) (rc : ResponseCode) (data : List Byte),
    let t := s.answer r rc data
    let next := { s with buffer := s.buffer.tail, headWaited := false }
    t.queue = s.queue ++ [s.responseTo r rc data] ∧ t.buffer = s.buffer.tail ∧ t.attn = t.attnDue ∧
    (∀ i, t.surface i =
      let v := s.surface i
      let takesImage := v.imageFlight.isNone && !next.holdsImage i
      let takesPen := v.penFlight.isNone && !next.holdsPen i
      { v with
        imageSlot := if takesImage then none else v.imageSlot
        imageFlight := if takesImage then v.imageSlot.map (fun g => { frame := g, progress := .taken })
          else v.imageFlight
        penSlot := if takesPen then none else v.penSlot
        penFlight := if takesPen then v.penSlot else v.penFlight }) ∧
    t = { s with
          pad := t.pad, panel := t.panel, queue := t.queue, buffer := t.buffer, headWaited := false,
          attn := t.attn }) ∧
  (∀ (s : State) (i : SurfaceId),
    let holds := fun (r : Request) => s.buffer.head? = some r ∧ requestCheck s.straps.panelEn r = none ∧
      r.surface = i ∧ (s.headWaited = true ∨ (s.surface i).imageFlight ≠ none ∨
        (r.deferrable = true ∧ (s.surface i).penFlight ≠ none))
    (s.holdsImage i = true ↔ ∃ r, holds r ∧ (r.code.toNat = 4 ∨ r.deferrable = true)) ∧
    (s.holdsPen i = true ↔ ∃ r, holds r ∧ r.deferrable = true)) ∧
  (∀ s : State, s.headWaits = true ↔ ∃ r : Request, s.buffer.head? = some r ∧
    requestCheck s.straps.panelEn r = none ∧
      ((r.code.toNat = 4 ∧ (s.surface r.surface).imageFlight ≠ none) ∨
        (r.deferrable = true ∧ (s.surface r.surface).busy = true)))

/-! ## The system link -/

/-- R168, R188: TAKE sends the status header as it stands and the head record, which becomes under delivery; STATUS sends
the header alone; an unknown code sends nothing. No record, flag or count changes. -/
def Obligations.TransactionsOpenWithASnapshot : Prop :=
  ∀ s : State, s.started = true → s.transaction = none →
    let kind := (s.queue.head?.map (fun r => r.body.kindCode)).getD 0
    let size := (s.queue.head?.map (fun r => r.bytes.length)).getD 0
    let record := (s.queue.head?.map Record.bytes).getD []
    let header : List Byte :=
      [BitVec.ofNat 8 s.queue.length, BitVec.ofNat 8 s.responseCount,
        BitVec.ofNat 8 ((if s.alertPresent then 1 else 0)
          + (if s.queueBlock.almostFull ≤ s.generalCount then 2 else 0) + (if s.packetError then 4 else 0)
          + (if s.requestRefused then 8 else 0)),
        (match s.resetCause with
          | .none => 0
          | .powerOn => 1
          | .resetPin => 2
          | .fullReset => 3), BitVec.ofNat 8 kind, BitVec.ofNat 8 size]
    let opened := fun (out : List Byte) (delivering : Bool) (size : Nat) =>
      ({ out := out, sendsHeader := true, delivering := delivering, recordLength := size,
         clearsPacketError := s.packetError, clearsRequestRefused := s.requestRefused,
         clearsCause := s.resetCause != .none } : Transaction)
    exec .take s = .next { s with transaction := some (opened (header ++ record) (!s.queue.isEmpty) size) } ∧
    exec .status s = .next { s with transaction := some (opened header false 0) } ∧
    (∀ code : Byte, code ≠ 1 → code ≠ 2 → code ≠ 3 →
      ∃ x, exec (.unknownTransactionCode code) s = .next { s with transaction := some x } ∧ x.out = [] ∧
        x.delivering = false ∧ x.sendsHeader = false)

/-- R169, R170: a release after the whole header clears the flags and the cause it showed; one before changes nothing
else; only a release after the last byte of the record removes the head, after which closing-only reports and a pending
END are offered again, in either order when both are due.
R103: for PAD and then PANEL, a surface that is not RUNNING and has a slot holding a closing has its closing-only report
offered, and nothing else changes; with no such surface the pending END alone is offered. -/
def Obligations.ReleaseClearsAndRemoves : Prop :=
  (∀ s : State,
    let due := fun (t : State) (i : SurfaceId) => (t.surface i).status ≠ .running ∧
      ∃ k ∈ t.slots, k.surface = i ∧ k.state ≠ .free ∧ k.closing ≠ none
    let offered := fun (t : State) (i : SurfaceId) => if due t i then t.closingOnlyReport i else t
    s.retryClosings = offered (offered s .pad) .panel) ∧
  ∀ (s : State) (x : Transaction) (sent : Nat), s.transaction = some x →
    let ended := { s with transaction := none }
    let cleared := State.refreshAttn { ended with
      packetError := s.packetError && !x.clearsPacketError
      requestRefused := s.requestRefused && !x.clearsRequestRefused
      resetCause := if x.clearsCause then .none else s.resetCause }
    let kept := if x.sendsHeader = true ∧ 6 ≤ sent then cleared else ended
    let removed := kept.withQueue kept.queue.tail
    ((x.delivering = false ∨ sent < 6 + x.recordLength) → exec (.transactionRelease sent) s = .next kept) ∧
    (x.delivering = true → 6 + x.recordLength ≤ sent →
      (s.gesture.pendingEnd = none → exec (.transactionRelease sent) s = .next removed.retryClosings) ∧
      ((∀ k ∈ s.slots, k.state ≠ .free → k.closing ≠ none → (s.surface k.surface).status = .running) →
        exec (.transactionRelease sent) s = .next removed.retryEnd) ∧
      (exec (.transactionRelease sent) s = .next removed.retryClosings.retryEnd ∨
        exec (.transactionRelease sent) s = .next ({ removed with free := removed.free + 1 }.retryClosings.retryEnd) ∨
        exec (.transactionRelease sent) s = .next ({ removed with free := removed.free + 1 }.retryEnd.retryClosings)))

/-- R172: a request packet without fault enters the tail of the buffer while the budget stands below 4, and is otherwise
discarded, counted and raised with REQUEST_REFUSED set. -/
def Obligations.RequestsMeetTheBudget : Prop :=
  ∀ (s : State) (code tag : Byte) (payload : List Byte), s.started = true → s.transaction = none →
    payload.length < 65536 →
    (s.budget < 4 → exec (.put (downstream 1 code tag payload)) s = .next
      { s with buffer := s.buffer ++ [{ code := code, tag := tag, payload := payload }] }) ∧
    (4 ≤ s.budget → ∃ t, exec (.put (downstream 1 code tag payload)) s = .next t ∧ t.requestRefused = true ∧
      t.refusedCount = min 65535 (s.refusedCount + 1) ∧ t.attn = true ∧
      (∃ u, u = { s with refusedCount := t.refusedCount }.raiseFault .requestRefused .systemLink tag code.toNat ∧
        t = { u with requestRefused := true, attn := true }))

/-- R171: a packet whose last two bytes are not the CRC of the rest is discarded with PACKET_ERROR set, PACKET_CRC
counted and the fault raised with the tag as received and reason CRC; one whose CRC is right is discarded likewise with
reason LENGTH when it ends before its length field or its payload is not as long as that says, with KIND when it is
neither a request nor a notice, with NOTICE_CODE for a notice of another code, and with NOTICE_VALUE for a POSTURE or
KEY_ACTIVITY notice with a wrong payload. That the last two bytes are tested as the CRC whatever the length field says, so
that a packet too short for its fields may fail at CRC or at LENGTH, is DEDUCED (notes/assumptions/7.md), and the
counter of free values, which PUT advances, is the model's own (notes/assumptions/20.md). -/
def Obligations.FaultyPacketsAreDiscarded : Prop :=
  ∀ s : State, s.started = true → s.transaction = none →
    let faulted := fun (free : Nat) (tag : Byte) (reason : Nat) =>
      { State.raiseFault { s with packetCrcCount := min 65535 (s.packetCrcCount + 1), free := free }
          .packetCrc .systemLink tag reason with packetError := true, attn := true }
    (∀ bytes : List Byte, 3 ≤ bytes.length →
      stamp (crc16 (bytes.take (bytes.length - 2))) ≠ bytes.drop (bytes.length - 2) →
      exec (.put bytes) s = .next (faulted (s.free + 1) (bytes.getD 2 0) 0)) ∧
    (∀ (kind code tag lo hi : Byte) (payload : List Byte), payload.length ≠ lo.toNat + 256 * hi.toNat →
      let body := [kind, code, tag, lo, hi] ++ payload
      exec (.put (body ++ stamp (crc16 body))) s = .next (faulted (s.free + 1) tag 1)) ∧
    (∀ body : List Byte, 1 ≤ body.length → body.length < 5 →
      let bytes := body ++ stamp (crc16 body)
      exec (.put bytes) s = .next (faulted (s.free + 1) (bytes.getD 2 0) 1)) ∧
    (∀ (kind code tag : Byte) (payload : List Byte), payload.length < 65536 → kind ≠ 1 → kind ≠ 2 →
      exec (.put (downstream kind code tag payload)) s = .next (faulted (s.free + 1) tag 2)) ∧
    (∀ (code tag : Byte) (payload : List Byte), payload.length < 65536 → code ≠ 1 → code ≠ 2 →
      exec (.put (downstream 2 code tag payload)) s = .next (faulted s.free tag 3)) ∧
    (∀ (tag : Byte) (payload : List Byte), (payload.length ≠ 1 ∨ 5 ≤ byteAt payload 0) →
      exec (.posture tag payload) s = .next (faulted s.free tag 4) ∧
      (payload.length < 65536 → exec (.put (downstream 2 1 tag payload)) s = .next (faulted s.free tag 4))) ∧
    (∀ (tag : Byte) (payload : List Byte), payload ≠ [] →
      exec (.keyActivity tag payload) s = .next (faulted s.free tag 4) ∧
      (payload.length < 65536 → exec (.put (downstream 2 2 tag payload)) s = .next (faulted s.free tag 4)))

/-- R15, R115: a POSTURE notice sets the posture and nothing else; a KEY_ACTIVITY notice starts or restarts the guard
when REJECTION is ready with a guard_time that is not 0, and otherwise leaves it; each by its own row and by PUT. -/
def Obligations.NoticesActAtOnce : Prop :=
  ∀ s : State, s.started = true →
    let guarded := { s with
      guard := if s.padRejectionReady = true ∧ s.padRejection.guardTime ≠ 0 then some s.padRejection.guardTime
        else s.guard }
    (∀ (tag b : Byte) (p : Posture), [Posture.laptop, .stand, .tent, .tablet, .closed][b.toNat]? = some p →
      exec (.posture tag [b]) s = .next { s with posture := p } ∧
      (s.transaction = none → exec (.put (downstream 2 1 tag [b])) s = .next { s with posture := p })) ∧
    (∀ tag : Byte, exec (.keyActivity tag []) s = .next guarded ∧
      (s.transaction = none → exec (.put (downstream 2 2 tag [])) s = .next guarded))

/-- R116, R120, R173: the guard stops when its time remaining is 0, the linger state becomes absent when its deadline
has passed, and the attention line is asserted when the head record has reached max_delay; each alone. That an expiry or
deadline that is not due changes nothing is the model's choice (notes/assumptions/3.md), and so is how the model tells one
that is due: the guard waits at 0, and a deadline has passed when it is not within the next 2000 ms
(notes/assumptions/4.md). -/
def Obligations.DeadlinesActAlone : Prop :=
  ∀ s : State, s.started = true →
    (s.guard = some 0 → exec .typingGuardExpiry s = .next { s with guard := none }) ∧
    (∀ n, s.guard = some (n + 1) → exec .typingGuardExpiry s = .next s) ∧
    (∀ l : Linger, s.linger = some l → (l.deadline = s.time ∨ 2000 < (l.deadline - s.time).toNat) →
      exec .lingerDeadline s = .next { s with linger := none }) ∧
    (∀ l : Linger, s.linger = some l → l.deadline ≠ s.time → (l.deadline - s.time).toNat ≤ 2000 →
      exec .lingerDeadline s = .next s) ∧
    (∀ (r : Record) (rest : List Record), s.queue = r :: rest → s.queueBlock.maxDelay ≠ 0 →
      s.queueBlock.maxDelay ≤ (s.time - r.placed).toNat → exec .attnMaxDelay s = .next { s with attn := true })

/-! ## Requests -/

/-- R175, R176, R10: a request that fails a check at the head is answered by the first that applies, with no other
effect; an unknown code is echoed with UNKNOWN_REQUEST. A write of a deferrable block waits while its surface has a frame
in flight, and a REBASE while it has an IMAGE frame in flight; waiting changes nothing.
The checks of every code: the length of the operands of R188 (RELAY's 1 to 64 bytes of R28 among them), where a surface is
named, the surface operand, which QUEUE's SET_PARAMS and READ_PARAMS ignore, and then for LOAD_TABLE and SET_PARAMS the
BAD_TABLE test of R178 or R177 and the byte count of the entries or the block (R190). That a misfit in length answers
BAD_LENGTH where another rule's answer would fit too (a RELAY of no byte or of more than 64 that names an absent PANEL; a
block of a wrong length for a surface that is not STOPPED) is DEDUCED (notes/assumptions/17.md). -/
def Obligations.RequestsAreCheckedThenMayWait : Prop :=
  (∀ (s : State) (r : Request) (row : Instr) (rc : ResponseCode), s.started = true → s.buffer.head? = some r →
    1 ≤ r.code.toNat → rowOf r.code.toNat = some row → requestCheck s.straps.panelEn r = some rc →
    exec row s = .next (s.answer r rc [])) ∧
  (∀ (s : State) (r : Request), s.started = true → s.buffer.head? = some r →
    (r.code.toNat = 0 ∨ 15 < r.code.toNat) → exec .unknownRequest s = .next (s.answer r .unknownRequest [])) ∧
  (∀ (panel : Bool) (r : Request),
    let c := r.code.toNat
    let n := r.payload.length
    let first := byteAt r.payload 0
    let second := byteAt r.payload 1
    let fits := ((c = 1 ∨ c = 14 ∨ c = 15) → n = 0) ∧ ((c = 2 ∨ c = 3 ∨ c = 4 ∨ c = 9 ∨ c = 10) → n = 1) ∧
      ((c = 8 ∨ c = 11) → n = 2) ∧ (c = 12 → n = 3) ∧ (c = 6 → n = 4) ∧ (c = 5 → 3 ≤ n) ∧ (c = 7 → 2 ≤ n) ∧
      (c = 13 → 2 ≤ n ∧ n ≤ 65)
    let named : Option Nat :=
      if c = 2 ∨ c = 3 ∨ c = 4 ∨ c = 11 ∨ c = 13 then some first
      else if c = 5 ∨ c = 6 ∨ ((c = 7 ∨ c = 8) ∧ first ≠ 5) then some second
      else none
    let other : Option ResponseCode :=
      if c = 5 then
        if 4 < first ∨ (first = 3 ∧ named = some 1) ∨ (first = 4 ∧ named = some 0) then some .badTable
        else if n = 3 ∨ (n - 3) % [2, 23, 14, 12, 2].getD first 1 ≠ 0 then some .badLength
        else none
      else if c = 7 then
        if 5 < first ∨ (first = 4 ∧ named = some 0) then some .badTable
        else if n ≠ 2 + (if first = 3 ∧ named = some 1 then 13 else [6, 17, 8, 5, 3, 5].getD first 0) then
          some .badLength
        else none
      else none
    ((c = 0 ∨ 15 < c) → requestCheck panel r = some .unknownRequest) ∧
    (1 ≤ c → c ≤ 15 →
      (¬ fits → requestCheck panel r = some .badLength) ∧
      (fits → ∀ x, named = some x → 1 < x → requestCheck panel r = some .badValue) ∧
      (fits → named = some 1 → panel = false → requestCheck panel r = some .noSurface) ∧
      (fits → (named = none ∨ named = some 0 ∨ (named = some 1 ∧ panel = true)) →
        requestCheck panel r = other ∧ r.surface = if named = some 1 then .panel else .pad))) ∧
  (∀ (s : State) (r : Request), s.AtHead r 7 → r.deferrable = true → (s.surface r.surface).busy = true →
    exec .setParams s = .next s) ∧
  (∀ (s : State) (r : Request), s.AtHead r 5 → r.deferrable = true → (s.surface r.surface).busy = true →
    exec .loadTable s = .next s) ∧
  (∀ (s : State) (r : Request), s.AtHead r 4 → (s.surface r.surface).imageFlight ≠ none → exec .rebase s = .next s)

/-- R3, R4: START is refused out of STOPPED, lists every item that is not ready in the order of R4, and otherwise begins
an acquisition with the timer started. -/
def Obligations.StartNeedsEveryItemReady : Prop :=
  ∀ (s : State) (r : Request), s.AtHead r 2 →
    let i := r.surface
    let v := s.surface i
    let missing := readyItemOrder.filter (s.missingItem i)
    (v.status ≠ .stopped → exec .start s = .next (s.answer r .surfaceRunning [])) ∧
    (v.status = .stopped → missing ≠ [] →
      exec .start s = .next (s.answer r .notReady (missing.map (enumByte readyItemOrder)))) ∧
    (v.status = .stopped → missing = [] →
      exec .start s = .next
        ((s.withSurface i { v with
            status := .acquiring, sums := v.geometry.zeroImage, collected := 0, driftCounter := 0,
            anomalyCount := 0, expectedImage := none, expectedPen := none,
            timer := some v.detection.frameTimeout, lastGood := 0 }).answer r .ok []))

/-- R12, R10: STOP ends a surface that is not STOPPED before its OK, and answers OK at once in STOPPED; REBASE restarts
the acquisition of a surface in ACQUIRING or RUNNING, cancelling PAD's engine when PAD was RUNNING, and answers OK at
once in STOPPED and STALLED. -/
def Obligations.StopAndRebaseAnswerAfterTheirEffects : Prop :=
  (∀ (s : State) (r : Request), s.AtHead r 3 →
    ((s.surface r.surface).status = .stopped → exec .stop s = .next (s.answer r .ok [])) ∧
    ((s.surface r.surface).status ≠ .stopped →
      exec .stop s = .next ((s.endSurface r.surface .stopped).answer r .ok []))) ∧
  (∀ (s : State) (r : Request), s.AtHead r 4 → s.Unhindered r →
    let i := r.surface
    let v := s.surface i
    let slots := s.slots.map (fun k => if k.ofSurface i then k.endEffect else k)
    let rebased := ({ s with slots := slots }.withSurface i { v with
      status := .acquiring, sums := v.geometry.zeroImage, collected := 0, driftCounter := 0,
      anomalyCount := 0 }).closingOnlyReport i
    ((v.status = .stopped ∨ v.status = .stalled) → exec .rebase s = .next (s.answer r .ok [])) ∧
    ((v.status = .acquiring ∨ (v.status = .running ∧ i = .panel)) →
      exec .rebase s = .next (rebased.answer r .ok [])) ∧
    (v.status = .running → i = .pad → exec .rebase s = .next (rebased.cancelOutside.answer r .ok [])))

/-- R30, R70, R76, R147, R138, R190: a LOAD_TABLE of well-formed entries that fit writes them at consecutive indices,
marks the table and answers OK; one that passes the end answers BAD_INDEX and writes nothing, whatever the entries hold.
One that fits and has among its entries one with a used or capture byte other than 0 and 1, a CLASS min above its max or
an edge condition or result class outside its set, crossed ZONE corners or an unknown policy, a GESTURE kind, finger
count, direction or event code outside its set, or a curve value above 4095 answers BAD_VALUE and writes none of them. A
LINE_MAP out of STOPPED answers SURFACE_RUNNING before the index is tested. -/
def Obligations.LoadTableWritesItsEntries : Prop :=
  (∀ (s : State) (r : Request), s.AtHead r 5 → byteAt r.payload 0 = 0 → (s.surface r.surface).status ≠ .stopped →
    exec .loadTable s = .next (s.answer r .surfaceRunning [])) ∧
  (∀ (s : State) (r : Request) (code surf : Byte) (start : Nat) (pieces : List (List Byte)), s.AtHead r 5 →
    s.Unhindered r → start < 256 → (code = 0 → (s.surface r.surface).status = .stopped) →
    r.payload = [code, surf, byteOf start] ++ pieces.flatten →
    (∀ p ∈ pieces, [2, 23, 14, 12, 2][code.toNat]? = some p.length) →
    let places := [128, 16, 8, 16, 9].getD code.toNat 0
    let refused := fun (p : List Byte) =>
      let b := byteAt p
      let w := word16At p
      (code = 1 ∧ (1 < b 0 ∨ w 3 < w 1 ∨ w 7 < w 5 ∨ w 11 < w 9 ∨ w 15 < w 13 ∨ w 19 < w 17 ∨ 2 < b 21 ∨ 4 < b 22)) ∨
      (code = 2 ∧ (1 < b 0 ∨ w 5 < w 1 ∨ w 7 < w 3 ∨ 3 < b 9 ∨ 3 < b 10 ∨ 3 < b 11 ∨ 3 < b 12 ∨ 3 < b 13)) ∨
      (code = 3 ∧ (1 < b 0 ∨ 3 < b 1 ∨ b 2 = 0 ∨ 5 < b 2 ∨ (b 1 = 1 ∧ 4 < b 3) ∨ (b 1 = 2 ∧ (b 3 < 5 ∨ 7 < b 3)) ∨
        ((b 1 = 0 ∨ b 1 = 3) ∧ b 3 ≠ 0) ∨ 1 < b 10 ∨ b 11 = 0 ∨ 250 < b 11)) ∨
      (code = 4 ∧ 4095 < w 0)
    (places < start + pieces.length → exec .loadTable s = .next (s.answer r .badIndex [])) ∧
    (start + pieces.length ≤ places → (∃ p ∈ pieces, refused p) →
      exec .loadTable s = .next (s.answer r .badValue []))) ∧
  ∀ (s : State) (r : Request) (start : Nat), s.AtHead r 5 → s.Unhindered r → start < 256 →
    let i := r.surface
    let v := s.surface i
    let surf : Byte := if i = .pad then 0 else 1
    (∀ es : List LineEntry, es ≠ [] → (∀ e ∈ es, e.Valid) → v.status = .stopped →
      r.payload = [0, surf, byteOf start] ++ es.flatMap LineEntry.bytes →
      (start + es.length ≤ 128 → exec .loadTable s = .next ((s.withSurface i { v with
        lineMap := v.lineMap.take start ++ es ++ v.lineMap.drop (start + es.length),
        lineMapLoaded := true }).answer r .ok [])) ∧
      (128 < start + es.length → exec .loadTable s = .next (s.answer r .badIndex []))) ∧
    (∀ es : List ClassEntry, es ≠ [] → (∀ e ∈ es, e.Valid) →
      r.payload = [1, surf, byteOf start] ++ es.flatMap ClassEntry.bytes →
      (start + es.length ≤ 16 → exec .loadTable s = .next ((s.withSurface i { v with
        classTable := v.classTable.take start ++ es ++ v.classTable.drop (start + es.length),
        classReady := true }).answer r .ok [])) ∧
      (16 < start + es.length → exec .loadTable s = .next (s.answer r .badIndex []))) ∧
    (∀ es : List ZoneEntry, es ≠ [] → (∀ e ∈ es, e.Valid) →
      r.payload = [2, surf, byteOf start] ++ es.flatMap ZoneEntry.bytes →
      (start + es.length ≤ 8 → exec .loadTable s = .next ((s.withSurface i { v with
        zoneMap := v.zoneMap.take start ++ es ++ v.zoneMap.drop (start + es.length),
        zoneReady := true }).answer r .ok [])) ∧
      (8 < start + es.length → exec .loadTable s = .next (s.answer r .badIndex []))) ∧
    (∀ es : List GestureEntry, es ≠ [] → (∀ e ∈ es, e.Valid) →
      r.payload = [3, 0, byteOf start] ++ es.flatMap GestureEntry.bytes →
      (start + es.length ≤ 16 → exec .loadTable s = .next ({ s with
        gestureTable := s.gestureTable.take start ++ es ++ s.gestureTable.drop (start + es.length),
        gestureReady := true }.answer r .ok [])) ∧
      (16 < start + es.length → exec .loadTable s = .next (s.answer r .badIndex []))) ∧
    (∀ values : List Nat, values ≠ [] → (∀ x ∈ values, x ≤ 4095) →
      r.payload = [4, 1, byteOf start] ++ values.flatMap (fun x => le16 x) →
      let curve := s.curve.take start ++ values.map (fun x => ({ value := x, loaded := true } : CurvePoint))
        ++ s.curve.drop (start + values.length)
      (start + values.length ≤ 9 → curveDecreases curve = false →
        exec .loadTable s = .next ({ s with curve := curve }.answer r .ok [])) ∧
      (start + values.length ≤ 9 → curveDecreases curve = true →
        exec .loadTable s = .next (s.answer r .badValue [])) ∧
      (9 < start + values.length → exec .loadTable s = .next (s.answer r .badIndex [])))

/-- R177, R190: a SET_PARAMS of values in range writes the whole block, makes it ready and answers OK; an accepted
GEOMETRY clears the line map, a PAD mode change away from gestures cancels, guard_time 0 stops the guard, and QUEUE
moves the attention line. A scalar outside its range is brought to the nearer end and the answer is CLAMPED;
an enumerated field outside its set, a GEOMETRY count outside its range and a noise_floor that is not below
touch_threshold are refused with BAD_VALUE and write nothing. That PANEL's settle_frames is written as sent is DEDUCED
(notes/assumptions/9.md). -/
def Obligations.SetParamsWritesTheBlock : Prop :=
  ∀ (s : State) (r : Request), s.AtHead r 7 → s.Unhindered r →
    let i := r.surface
    let v := s.surface i
    let surf : Byte := if i = .pad then 0 else 1
    (∀ g : Geometry, v.status = .stopped → 1 ≤ g.driveChannels → g.driveChannels ≤ 72 → 1 ≤ g.senseChannels →
      g.senseChannels ≤ 56 → 4 ≤ g.driveLines → g.driveLines ≤ 64 → 4 ≤ g.senseLines → g.senseLines ≤ 48 →
      r.payload = [0, surf] ++ g.bytes →
      exec .setParams s = .next ((s.withSurface i { v with
        geometry := g, geometryReady := true, lineMap := List.replicate 128 { line := none, dead := false },
        lineMapLoaded := false, baseline := g.zeroImage, sums := g.zeroImage }).answer r .ok [])) ∧
    (∀ d : Detection, v.status = .stopped → d.InRange → r.payload = [1, surf] ++ d.bytes →
      (d.noiseFloor < d.touchThreshold → exec .setParams s = .next
        ((s.withSurface i { v with detection := d, detectionReady := true }).answer r .ok [])) ∧
      (d.touchThreshold ≤ d.noiseFloor → exec .setParams s = .next (s.answer r .badValue []))) ∧
    (v.status ≠ .stopped → (r.block = some .geometry ∨ r.block = some .detection) →
      exec .setParams s = .next (s.answer r .surfaceRunning [])) ∧
    (∀ rep : Reporting, 255 ≤ rep.lx → rep.lx ≤ 32767 → 255 ≤ rep.ly → rep.ly ≤ 32767 → 1 ≤ rep.settleFrames →
      rep.settleFrames ≤ 8 → (i = .panel → rep.mode = .contacts) → r.payload = [2, surf] ++ rep.bytes →
      let written := s.withSurface i { v with reporting := rep, reportingReady := true }
      exec .setParams s = .next
        ((if i = .pad ∧ v.reporting.mode ≠ .contacts ∧ rep.mode = .contacts then written.cancelOutside
          else written).answer r .ok [])) ∧
    (∀ b : PadRejection, i = .pad → b.guardTime ≤ 2000 → b.hesitantTravel ≤ 4095 → 1 ≤ b.hesitantFrames →
      b.hesitantFrames ≤ 255 → r.payload = [3, 0] ++ b.bytes →
      exec .setParams s = .next ({ s with
        padRejection := b, padRejectionReady := true,
        guard := if b.guardTime = 0 then none else s.guard }.answer r .ok [])) ∧
    (∀ b : PanelRejection, i = .panel → b.ahead ≤ 4095 → b.back ≤ 4095 → b.above ≤ 4095 → b.below ≤ 4095 →
      b.linger ≤ 2000 → b.shadowRadius ≤ 255 → r.payload = [3, 1] ++ b.bytes →
      exec .setParams s = .next ({ s with panelRejection := b, panelRejectionReady := true }.answer r .ok [])) ∧
    (∀ b : PenBlock, 1 ≤ b.hoverThreshold → b.hoverThreshold ≤ 4095 → b.penHold ≤ 15 →
      r.payload = [4, 1] ++ b.bytes →
      exec .setParams s = .next ({ s with penBlock := b, penBlockReady := true }.answer r .ok [])) ∧
    (∀ (b : QueueBlock) (any : Byte), 1 ≤ b.attentionThreshold → b.attentionThreshold ≤ 59 → 8 ≤ b.almostFull →
      b.almostFull ≤ 59 → b.maxDelay ≤ 255 → r.payload = [5, any] ++ b.bytes →
      exec .setParams s = .next ({ s with queueBlock := b }.answer r .ok [])) ∧
    (let b := r.blockBytes
      let near := fun (lo hi n : Nat) => max lo (min hi n)
      let word := fun (n : Nat) => byteAt b n + 256 * byteAt b (n + 1)
      let answer := fun (asSent : Bool) => if asSent then ResponseCode.ok else .clamped
      (r.block = some .geometry → v.status = .stopped →
        (byteAt b 0 < 1 ∨ 72 < byteAt b 0 ∨ byteAt b 1 < 1 ∨ 56 < byteAt b 1 ∨ byteAt b 2 < 4 ∨ 64 < byteAt b 2 ∨
          byteAt b 3 < 4 ∨ 48 < byteAt b 3 ∨ 1 < byteAt b 4 ∨ 1 < byteAt b 5) →
        exec .setParams s = .next (s.answer r .badValue [])) ∧
      (r.block = some .detection → v.status = .stopped →
        let d : Detection :=
          { touchThreshold := near 1 4095 (word 0), noiseFloor := near 0 4094 (word 2),
            acquireFrames := near 1 64 (byteAt b 4), driftInterval := near 1 127 (byteAt b 5),
            driftStep := near 1 255 (byteAt b 6), negativeThreshold := near 1 4095 (word 7),
            anomalyFrames := near 1 255 (byteAt b 9), contactLimit := near 1 16 (byteAt b 10),
            confirmFrames := near 1 8 (byteAt b 11), coastFrames := near 0 8 (byteAt b 12),
            trackGate := near 16 4095 (word 13), frameTimeout := near 10 1000 (word 15) }
        (d.touchThreshold ≤ d.noiseFloor → exec .setParams s = .next (s.answer r .badValue [])) ∧
        (d.noiseFloor < d.touchThreshold → exec .setParams s = .next
          ((s.withSurface i { v with detection := d, detectionReady := true }).answer r (answer (d.bytes == b)) []))) ∧
      (r.block = some .reporting →
        ((2 < byteAt b 6 ∨ (i = .panel ∧ byteAt b 6 ≠ 0)) → exec .setParams s = .next (s.answer r .badValue [])) ∧
        (∀ mode, [ReportMode.contacts, .gestures, .both][byteAt b 6]? = some mode → (i = .panel → mode = .contacts) →
          let rep : Reporting :=
            { lx := near 255 32767 (word 0), ly := near 255 32767 (word 2), swap := (b.getD 4 0).getLsbD 0,
              invertX := (b.getD 4 0).getLsbD 1, invertY := (b.getD 4 0).getLsbD 2,
              mask := (b.getD 5 0).setWidth 5, mode := mode,
              settleFrames := if i = .pad then near 1 8 (byteAt b 7) else byteAt b 7 }
          let written := s.withSurface i { v with reporting := rep, reportingReady := true }
          exec .setParams s = .next
            ((if i = .pad ∧ v.reporting.mode ≠ .contacts ∧ mode = .contacts then written.cancelOutside
              else written).answer r
              (answer (rep.lx == word 0 && rep.ly == word 2 && rep.settleFrames == byteAt b 7)) []))) ∧
      (r.block = some .rejection → i = .pad →
        let d : PadRejection := { guardTime := near 0 2000 (word 0), hesitantTravel := near 0 4095 (word 2),
                                  hesitantFrames := near 1 255 (byteAt b 4) }
        exec .setParams s = .next ({ s with
          padRejection := d, padRejectionReady := true
          guard := if d.guardTime = 0 then none else s.guard }.answer r (answer (d.bytes == b)) [])) ∧
      (r.block = some .rejection → i = .panel →
        ((2 < byteAt b 0 ∨ 1 < byteAt b 1) → exec .setParams s = .next (s.answer r .badValue [])) ∧
        (∀ penMode hand, [PenMode.off, .area, .all][byteAt b 0]? = some penMode →
          [Handedness.right, .left][byteAt b 1]? = some hand →
          let d : PanelRejection :=
            { penMode := penMode, handedness := hand, ahead := near 0 4095 (word 2), back := near 0 4095 (word 4),
              above := near 0 4095 (word 6), below := near 0 4095 (word 8), linger := near 0 2000 (word 10),
              shadowRadius := byteAt b 12 }
          exec .setParams s = .next
            ({ s with panelRejection := d, panelRejectionReady := true }.answer r (answer (d.bytes == b)) []))) ∧
      (r.block = some .pen →
        let d : PenBlock := { hoverThreshold := near 1 4095 (word 0), penHold := near 0 15 (byteAt b 2) }
        exec .setParams s = .next
          ({ s with penBlock := d, penBlockReady := true }.answer r (answer (d.bytes == b)) [])) ∧
      (r.block = some .queue →
        let d : QueueBlock :=
          { attentionThreshold := near 1 59 (byteAt b 0), almostFull := near 8 59 (byteAt b 1),
            maxDelay := byteAt b 2, captureMask := BitVec.ofNat 12 (word 3) }
        exec .setParams s = .next ({ s with queueBlock := d }.answer r
          (answer (d.attentionThreshold == byteAt b 0 && d.almostFull == byteAt b 1)) [])))

/-- R190: the bytes of every block and table entry in its range, a PRESSURE_CURVE point among them, read back as the same
block or entry. -/
def Obligations.LayoutsReadBackWhatTheyHold : Prop :=
  (∀ g : Geometry, 1 ≤ g.driveChannels → g.driveChannels ≤ 72 → 1 ≤ g.senseChannels → g.senseChannels ≤ 56 →
    4 ≤ g.driveLines → g.driveLines ≤ 64 → 4 ≤ g.senseLines → g.senseLines ≤ 48 →
    Geometry.ofBytes g.bytes = some g ∧ g.bytes.length = 6) ∧
  (∀ d : Detection, d.InRange → (Detection.ofBytes d.bytes).clamped = d ∧ d.bytes.length = 17) ∧
  (∀ (i : SurfaceId) (b : Reporting), b.lx < 65536 → b.ly < 65536 → b.settleFrames < 256 →
    (i = .panel → b.mode = .contacts) → Reporting.ofBytes i b.bytes = some b ∧ b.bytes.length = 8) ∧
  (∀ b : PadRejection, b.guardTime < 65536 → b.hesitantTravel < 65536 → b.hesitantFrames < 256 →
    PadRejection.ofBytes b.bytes = b ∧ b.bytes.length = 5) ∧
  (∀ b : PanelRejection, b.ahead < 65536 → b.back < 65536 → b.above < 65536 → b.below < 65536 →
    b.linger < 65536 → b.shadowRadius < 256 →
    PanelRejection.ofBytes b.bytes = some b ∧ b.bytes.length = 13) ∧
  (∀ b : PenBlock, b.hoverThreshold < 65536 → b.penHold < 256 →
    PenBlock.ofBytes b.bytes = b ∧ b.bytes.length = 3) ∧
  (∀ b : QueueBlock, b.attentionThreshold < 256 → b.almostFull < 256 → b.maxDelay < 256 →
    QueueBlock.ofBytes b.bytes = b ∧ b.bytes.length = 5) ∧
  (∀ e : LineEntry, e.Valid → LineEntry.ofBytes e.bytes = e ∧ e.bytes.length = 2) ∧
  (∀ e : ClassEntry, e.Valid → ClassEntry.ofBytes e.bytes = some e ∧ e.bytes.length = 23) ∧
  (∀ e : ZoneEntry, e.Valid → ZoneEntry.ofBytes e.bytes = some e ∧ e.bytes.length = 14) ∧
  (∀ e : GestureEntry, e.Valid → GestureEntry.ofBytes e.bytes = some e ∧ e.bytes.length = 12) ∧
  (∀ n : Nat, n < 65536 → byteAt (le16 n) 0 + 256 * byteAt (le16 n) 1 = n ∧ (le16 n).length = 2)

/-- R179: DESCRIBE answers OK with the part code, the revision, the surfaces, the straps and the capacities. -/
def Obligations.DescribeNamesThePart : Prop :=
  ∀ (s : State) (r : Request), s.AtHead r 1 →
    exec .describe s = .next (s.answer r .ok
      [0xC0, 0x08, 1, (if s.straps.panelEn then 3 else 1), BitVec.ofNat 8 s.straps.refsel.toNat,
        (if s.straps.linkPhase then 1 else 0), 16, 64, 59, 4, 24, 16, 8, 16, 128, 0x00, 0x0C])

/-- R178, R177, R180, R187, R189: the reading requests answer with what is held. An unknown table or block code, or one
the surface has not, answers BAD_TABLE. READ_TABLE refuses a count past the table or the 240 data bytes and otherwise
returns the entries with the table's mark, PRESSURE_CURVE's points with a mark each; a count of 0 is refused, with
BAD_VALUE where the start is within the table (notes/assumptions/14.md). READ_PARAMS returns the block with its ready
mark, QUEUE's being free (notes/assumptions/13.md). READ_STATUS refuses an unknown section and otherwise returns the
section's fields; where R180 and R187 leave their packing open it is the model's reading (notes/assumptions/12.md), and
what a FREE slot shows as surface and class is notes/assumptions/10.md. -/
def Obligations.ReadsReturnWhatIsHeld : Prop :=
  (∀ (s : State) (r : Request) (t : TableId) (surf start count : Byte), s.AtHead r 6 →
    r.payload = [enumByte tableOrder t, surf, start, count] →
    let i := r.surface
    let v := s.surface i
    let entries : List (List Byte) := match t with
      | .lineMap => v.lineMap.map LineEntry.bytes
      | .classTable => v.classTable.map ClassEntry.bytes
      | .zone => v.zoneMap.map ZoneEntry.bytes
      | .gesture => s.gestureTable.map GestureEntry.bytes
      | .pressureCurve => s.curve.map (fun p => le16 p.value)
    let mark := match t with
      | .lineMap => v.lineMapLoaded
      | .classTable => v.classReady
      | .zone => v.zoneReady
      | .gesture => s.gestureReady
      | .pressureCurve => s.curve.all (·.loaded)
    (hasTable t i = false → exec .readTable s = .next (s.answer r .badTable [])) ∧
    (hasTable t i = true → 1 ≤ count.toNat →
      ((tableSize t < start.toNat + count.toNat ∨ 240 < count.toNat * entrySize t) →
        exec .readTable s = .next (s.answer r .badIndex [])) ∧
      (start.toNat + count.toNat ≤ tableSize t → count.toNat * entrySize t ≤ 240 →
        ∃ marks : List Byte, (t ≠ .pressureCurve → marks = []) ∧
          (t = .pressureCurve → ∃ lo hi : Byte, marks = [lo, hi] ∧ ∀ k, k < 16 →
            (hi ++ lo).getLsbD k = (s.curve[k]?.map (·.loaded)).getD false) ∧
          exec .readTable s = .next (s.answer r .ok
            ([enumByte tableOrder t, surf, start, count, (if mark then 1 else 0)] ++ marks
              ++ ((entries.drop start.toNat).take count.toNat).flatten)))) ∧
    (hasTable t i = true → count = 0 →
      (start.toNat ≤ tableSize t → exec .readTable s = .next (s.answer r .badValue [])) ∧
      (tableSize t < start.toNat → exec .readTable s = .next (s.answer r .badIndex [])))) ∧
  (∀ (s : State) (r : Request), s.AtHead r 6 → 4 < byteAt r.payload 0 →
    exec .readTable s = .next (s.answer r .badTable [])) ∧
  (∀ (s : State) (r : Request), s.AtHead r 8 → 5 < byteAt r.payload 0 →
    exec .readParams s = .next (s.answer r .badTable [])) ∧
  (∀ (s : State) (r : Request) (b : BlockId) (surf : Byte), s.AtHead r 8 →
    r.payload = [enumByte blockOrder b, surf] →
    let i := r.surface
    let v := s.surface i
    let data : List Byte := match b with
      | .geometry => v.geometry.bytes
      | .detection => v.detection.bytes
      | .reporting => v.reporting.bytes
      | .rejection => if i = .pad then s.padRejection.bytes else s.panelRejection.bytes
      | .pen => s.penBlock.bytes
      | .queue => s.queueBlock.bytes
    (hasBlock b i = false → exec .readParams s = .next (s.answer r .badTable [])) ∧
    (hasBlock b i = true → ∃ mark : Bool,
      (b = .geometry → mark = v.geometryReady) ∧ (b = .detection → mark = v.detectionReady) ∧
      (b = .reporting → mark = v.reportingReady) ∧
      (b = .rejection → mark = if i = .pad then s.padRejectionReady else s.panelRejectionReady) ∧
      (b = .pen → mark = s.penBlockReady) ∧
      exec .readParams s = .next ({ s with free := s.free + 1 }.answer r .ok
        ([enumByte blockOrder b, surf, (if mark then 1 else 0)] ++ data)))) ∧
  (∀ (s : State) (r : Request) (code : Byte), s.AtHead r 9 → r.payload = [code] →
    let answers := fun (data : List Byte) => exec .readStatus s = .next (s.answer r .ok data)
    let two := fun (n : Int) => le16 n
    let bit := fun (b : Bool) (k : Nat) => if b then 2 ^ k else 0
    let shown := fun (v : Surface) => [enumByte surfaceStateOrder v.status, byteOf (bit v.baselineValid 0),
      byteOf v.collected, byteOf v.anomalyCount]
    let p := s.pen
    let g := s.gesture
    (code = 0 → answers (
      shown s.pad ++ [byteOf (bit s.pad.geometryReady 0 + bit s.pad.detectionReady 1 + bit s.pad.reportingReady 2
        + bit s.padRejectionReady 3 + bit s.pad.lineMapLoaded 4 + bit s.pad.classReady 5 + bit s.pad.zoneReady 6
        + bit s.gestureReady 7)]
      ++ (if s.straps.panelEn then
          shown s.panel ++ [byteOf (bit s.panel.geometryReady 0 + bit s.panel.detectionReady 1
            + bit s.panel.reportingReady 2 + bit s.panelRejectionReady 3 + bit s.penBlockReady 4
            + bit s.panel.lineMapLoaded 5 + bit s.panel.classReady 6 + bit s.panel.zoneReady 7),
            byteOf (bit (s.curve.all (·.loaded)) 0)]
        else [4, 0, 0, 0, 0, 0])
      ++ [enumByte postureOrder s.posture] ++ two (s.guard.getD 0)
      ++ two (match s.linger with
        | some l => if (l.deadline - s.time).toNat ≤ 2000 then (l.deadline - s.time).toNat else 0
        | none => 0))) ∧
    (code = 1 → answers (if s.straps.panelEn then
        [enumByte penStateOrder p.state] ++ two p.x ++ two p.y ++ [byteOf (bit p.coasting 0), byteOf p.missing]
          ++ two p.raw ++ [byteOf (bit p.tip 0 + bit p.barrel 1 + bit p.eraser 2 + bit p.batteryLow 3), byteOf p.tag,
            enumByte qualityOrder p.quality, byteOf p.dataAge, p.lastSequence]
      else [255] ++ List.replicate 10 0 ++ [255, 0, 0])) ∧
    (code = 2 → answers (
      [enumByte engineStateOrder g.state, byteOf g.number, byteOf g.members.length]
        ++ (g.members.map (fun m => [byteOf m.1, byteOf m.2])).flatten ++ [byteOf g.hold] ++ two g.anchorX
        ++ two g.anchorY ++ two g.anchorSpread ++ le32 g.anchorTime ++ le32 g.episodeStart ++ [byteOf g.greatest]
        ++ two g.fingerTravel ++ [byteOf (bit g.tapEligible 0)]
        ++ (match g.committed with
          | some c => [enumByte gestureKindOrder c.kind, byteOf c.code] ++ two c.x ++ two c.y ++ two c.spread
          | none => [255, 0, 0, 0, 0, 0, 0, 0])
        ++ (match g.pendingEnd with
          | some e => [byteOf e.number, enumByte endReasonOrder e.reason]
          | none => [0, 255])
        ++ [byteOf (bit g.switchSeen 0)])) ∧
    (code = 3 → answers (
      (s.slots.map (fun k =>
        [enumByte slotStateOrder k.state, enumByte surfaceOrder k.surface, byteOf k.contact,
          enumByte touchOrder k.touch, byteOf (bit k.mark 0 + bit k.announced 1 + bit k.closed 2),
          (match k.reason with
            | some w => enumByte reasonOrder w
            | none => 255),
          (match k.closing with
            | some c => if c.kind = .up then 2 else 3
            | none => 255)] ++ two k.age ++ [byteOf k.missing] ++ two k.x ++ two k.y)).flatten
        ++ [byteOf s.nextContact])) ∧
    (code = 4 → answers (
      (match s.fault with
        | some f => [enumByte faultKindOrder f.kind, enumByte faultSourceOrder f.source, f.sequence] ++ two f.detail
            ++ stamp f.timestamp ++ [byteOf (bit f.more 0)]
        | none => [255, 255, 0, 0, 0, 0, 0, 0])
        ++ two s.queueBlock.captureMask.toNat ++ [byteOf s.depth, byteOf s.generalCount, byteOf s.responseCount])) ∧
    (code = 5 → answers (
      let link := fun (c : LinkCounters) => two c.crcErrors ++ two c.lengthErrors ++ two c.seqGaps ++ two c.overruns
        ++ two c.timeouts ++ two c.regionOverflows ++ two c.tableFull ++ two c.autoRebases
      link s.pad.counters ++ link s.panel.counters ++ two s.penCorrected ++ two s.penUncorrectable
        ++ two s.mergedCount ++ two s.deferredCount ++ two s.droppedCount ++ two s.packetCrcCount
        ++ two s.refusedCount)) ∧
    (6 ≤ code.toNat → exec .readStatus s = .next (s.answer r .badValue [])))

/-- R182: CLEAR_FAULT empties the fault record; with its counter flag it sets every counter of COUNTERS to 0 on both
links. No ALERT, sticky flag or mask changes. -/
def Obligations.ClearFaultEmptiesTheRecord : Prop :=
  ∀ (s : State) (r : Request), s.AtHead r 10 →
    let emptied := { s with fault := none }
    ((r.payload.getD 0 0).getLsbD 0 = false → exec .clearFault s = .next (emptied.answer r .ok [])) ∧
    ((r.payload.getD 0 0).getLsbD 0 = true → exec .clearFault s = .next ({ emptied with
      pad := { s.pad with counters := .zero }, panel := { s.panel with counters := .zero }, penCorrected := 0,
      penUncorrectable := 0, mergedCount := 0, deferredCount := 0, droppedCount := 0, packetCrcCount := 0,
      refusedCount := 0 }.answer r .ok []))

/-- R183, R51, R172: CAPTURE is refused for an unknown kind, while one is pending, and out of ACQUIRING and RUNNING, in
that order; BASELINE is taken at once; RAW and DELTA become pending and leave the buffer unanswered, keeping their
place in the budget. -/
def Obligations.CaptureWaitsOrTakesTheBaseline : Prop :=
  ∀ (s : State) (r : Request) (surf kind : Byte), s.AtHead r 11 → r.payload = [surf, kind] →
    let i := r.surface
    let v := s.surface i
    let able := v.status = .acquiring ∨ v.status = .running
    (3 ≤ kind.toNat → exec .capture s = .next (s.answer r .badValue [])) ∧
    (kind.toNat < 3 → s.pendingCapture ≠ none → exec .capture s = .next (s.answer r .busy [])) ∧
    (kind.toNat < 3 → s.pendingCapture = none → ¬ able → exec .capture s = .next (s.answer r .surfaceStopped [])) ∧
    (kind = 2 → s.pendingCapture = none → able → exec .capture s = .next ({ s with
      captureBuffer := some { surface := i, kind := .baseline, driveLines := v.geometry.driveLines,
                              senseLines := v.geometry.senseLines, sequence := 0, arrival := 0,
                              valid := v.baselineValid, image := v.baseline } }.answer r .ok
        [2, surf, byteOf v.geometry.driveLines, byteOf v.geometry.senseLines, 0, 0, 0,
          (if v.baselineValid then 1 else 0)])) ∧
    (kind.toNat < 2 → s.pendingCapture = none → able → ∃ t, exec .capture s = .next t ∧
      t = ({ s with
        buffer := s.buffer.tail, headWaited := false
        pendingCapture := some { tag := r.tag, surface := i, kind := if kind = 0 then .raw else .delta } }).takeFrames ∧
      t.budget = s.budget ∧ t.queue = s.queue)

/-- R183, R189: READ_CAPTURE answers NOT_READY for an empty buffer, BAD_INDEX past its last value, BAD_VALUE for a count
of 0, CLAMPED for a count above 120 or past the end, and otherwise OK, with the values from the offset. -/
def Obligations.ReadCaptureReturnsAPiece : Prop :=
  ∀ (s : State) (r : Request) (lo hi count : Byte), s.AtHead r 12 → r.payload = [lo, hi, count] →
    let offset := lo.toNat + 256 * hi.toNat
    (s.captureBuffer = none → exec .readCapture s = .next (s.answer r .notReady [])) ∧
    (∀ c : CaptureBuffer, s.captureBuffer = some c →
      let size := c.driveLines * c.senseLines
      let n := min count.toNat (min 120 (size - offset))
      (size ≤ offset → exec .readCapture s = .next (s.answer r .badIndex [])) ∧
      (offset < size → count = 0 → exec .readCapture s = .next (s.answer r .badValue [])) ∧
      (offset < size → count ≠ 0 → ∃ packed : Byte,
        packed.getLsbD 0 = (c.surface == .panel) ∧ packed.getLsbD 3 = c.valid ∧
        packed.getLsbD 1 = (c.kind == .delta) ∧ packed.getLsbD 2 = (c.kind == .baseline) ∧
        exec .readCapture s = .next (s.answer r (if n < count.toNat then .clamped else .ok)
          ([byteOf c.driveLines, byteOf c.senseLines, c.sequence, packed, lo, hi, byteOf n]
            ++ ((c.image.flatten.drop offset).take n).flatMap le16))))

/-- R28: RELAY puts its bytes in the surface's empty relay buffer and the return lane begins to send the relay packet;
an occupied buffer answers BUSY; the buffer empties when the last byte has left. -/
def Obligations.RelayHoldsOnePacket : Prop :=
  (∀ (s : State) (r : Request) (surf : Byte) (bytes : List Byte), s.AtHead r 13 → r.payload = surf :: bytes →
    let i := r.surface
    ((s.surface i).relay ≠ none → exec .relay s = .next (s.answer r .busy [])) ∧
    ((s.surface i).relay = none → ∃ t, exec .relay s = .next t ∧
      t = (s.withSurface i { s.surface i with relay := some bytes }).answer r .ok [] ∧
      (t.surface i).returnLane = some ([0x7E, byteOf bytes.length] ++ bytes
        ++ stamp (crc16 (byteOf bytes.length :: bytes))))) ∧
  (∀ (s : State) (i : SurfaceId), ∃ t, exec (.relayTransmitComplete i) s = .next t ∧
    t = s.withSurface i { s.surface i with relay := none } ∧ (t.surface i).returnLane = none)
end

