-- ==== Sys2Proof/Laws/State.lean ====
section
/-! SUPPORT. One lemma per field per named update of State, each true by `rfl`, so that no later proof unfolds a
record update. -/

namespace Sys2Proof.Machine

variable (s : State)

@[simp] theorem State.withSlots_started (x : List Slot) : (s.withSlots x).started = s.started := rfl
@[simp] theorem State.withSlots_straps (x : List Slot) : (s.withSlots x).straps = s.straps := rfl
@[simp] theorem State.withSlots_cyclesPerTick (x : List Slot) : (s.withSlots x).cyclesPerTick = s.cyclesPerTick := rfl
@[simp] theorem State.withSlots_time (x : List Slot) : (s.withSlots x).time = s.time := rfl
@[simp] theorem State.withSlots_resetCause (x : List Slot) : (s.withSlots x).resetCause = s.resetCause := rfl
@[simp] theorem State.withSlots_pad (x : List Slot) : (s.withSlots x).pad = s.pad := rfl
@[simp] theorem State.withSlots_panel (x : List Slot) : (s.withSlots x).panel = s.panel := rfl
@[simp] theorem State.withSlots_padRejection (x : List Slot) : (s.withSlots x).padRejection = s.padRejection := rfl
@[simp] theorem State.withSlots_padRejectionReady (x : List Slot) : (s.withSlots x).padRejectionReady = s.padRejectionReady := rfl
@[simp] theorem State.withSlots_panelRejection (x : List Slot) : (s.withSlots x).panelRejection = s.panelRejection := rfl
@[simp] theorem State.withSlots_panelRejectionReady (x : List Slot) : (s.withSlots x).panelRejectionReady = s.panelRejectionReady := rfl
@[simp] theorem State.withSlots_penBlock (x : List Slot) : (s.withSlots x).penBlock = s.penBlock := rfl
@[simp] theorem State.withSlots_penBlockReady (x : List Slot) : (s.withSlots x).penBlockReady = s.penBlockReady := rfl
@[simp] theorem State.withSlots_gestureTable (x : List Slot) : (s.withSlots x).gestureTable = s.gestureTable := rfl
@[simp] theorem State.withSlots_gestureReady (x : List Slot) : (s.withSlots x).gestureReady = s.gestureReady := rfl
@[simp] theorem State.withSlots_curve (x : List Slot) : (s.withSlots x).curve = s.curve := rfl
@[simp] theorem State.withSlots_slots (x : List Slot) : (s.withSlots x).slots = x := rfl
@[simp] theorem State.withSlots_nextContact (x : List Slot) : (s.withSlots x).nextContact = s.nextContact := rfl
@[simp] theorem State.withSlots_switchReported (x : List Slot) : (s.withSlots x).switchReported = s.switchReported := rfl
@[simp] theorem State.withSlots_guard (x : List Slot) : (s.withSlots x).guard = s.guard := rfl
@[simp] theorem State.withSlots_linger (x : List Slot) : (s.withSlots x).linger = s.linger := rfl
@[simp] theorem State.withSlots_pen (x : List Slot) : (s.withSlots x).pen = s.pen := rfl
@[simp] theorem State.withSlots_penCorrected (x : List Slot) : (s.withSlots x).penCorrected = s.penCorrected := rfl
@[simp] theorem State.withSlots_penUncorrectable (x : List Slot) : (s.withSlots x).penUncorrectable = s.penUncorrectable := rfl
@[simp] theorem State.withSlots_gesture (x : List Slot) : (s.withSlots x).gesture = s.gesture := rfl
@[simp] theorem State.withSlots_queue (x : List Slot) : (s.withSlots x).queue = s.queue := rfl
@[simp] theorem State.withSlots_mergedCount (x : List Slot) : (s.withSlots x).mergedCount = s.mergedCount := rfl
@[simp] theorem State.withSlots_deferredCount (x : List Slot) : (s.withSlots x).deferredCount = s.deferredCount := rfl
@[simp] theorem State.withSlots_droppedCount (x : List Slot) : (s.withSlots x).droppedCount = s.droppedCount := rfl
@[simp] theorem State.withSlots_queueBlock (x : List Slot) : (s.withSlots x).queueBlock = s.queueBlock := rfl
@[simp] theorem State.withSlots_attn (x : List Slot) : (s.withSlots x).attn = s.attn := rfl
@[simp] theorem State.withSlots_packetError (x : List Slot) : (s.withSlots x).packetError = s.packetError := rfl
@[simp] theorem State.withSlots_requestRefused (x : List Slot) : (s.withSlots x).requestRefused = s.requestRefused := rfl
@[simp] theorem State.withSlots_packetCrcCount (x : List Slot) : (s.withSlots x).packetCrcCount = s.packetCrcCount := rfl
@[simp] theorem State.withSlots_refusedCount (x : List Slot) : (s.withSlots x).refusedCount = s.refusedCount := rfl
@[simp] theorem State.withSlots_transaction (x : List Slot) : (s.withSlots x).transaction = s.transaction := rfl
@[simp] theorem State.withSlots_buffer (x : List Slot) : (s.withSlots x).buffer = s.buffer := rfl
@[simp] theorem State.withSlots_headWaited (x : List Slot) : (s.withSlots x).headWaited = s.headWaited := rfl
@[simp] theorem State.withSlots_pendingCapture (x : List Slot) : (s.withSlots x).pendingCapture = s.pendingCapture := rfl
@[simp] theorem State.withSlots_captureBuffer (x : List Slot) : (s.withSlots x).captureBuffer = s.captureBuffer := rfl
@[simp] theorem State.withSlots_fault (x : List Slot) : (s.withSlots x).fault = s.fault := rfl
@[simp] theorem State.withSlots_posture (x : List Slot) : (s.withSlots x).posture = s.posture := rfl
@[simp] theorem State.withSlots_free (x : List Slot) : (s.withSlots x).free = s.free := rfl
@[simp] theorem State.withSlots_pending (x : List Slot) : (s.withSlots x).pending = s.pending := rfl
@[simp] theorem State.withSlots_surface (x : List Slot) (i : SurfaceId) : (s.withSlots x).surface i = s.surface i := by
  cases i <;> rfl

@[simp] theorem State.withGesture_started (x : Gesture) : (s.withGesture x).started = s.started := rfl
@[simp] theorem State.withGesture_straps (x : Gesture) : (s.withGesture x).straps = s.straps := rfl
@[simp] theorem State.withGesture_cyclesPerTick (x : Gesture) : (s.withGesture x).cyclesPerTick = s.cyclesPerTick := rfl
@[simp] theorem State.withGesture_time (x : Gesture) : (s.withGesture x).time = s.time := rfl
@[simp] theorem State.withGesture_resetCause (x : Gesture) : (s.withGesture x).resetCause = s.resetCause := rfl
@[simp] theorem State.withGesture_pad (x : Gesture) : (s.withGesture x).pad = s.pad := rfl
@[simp] theorem State.withGesture_panel (x : Gesture) : (s.withGesture x).panel = s.panel := rfl
@[simp] theorem State.withGesture_padRejection (x : Gesture) : (s.withGesture x).padRejection = s.padRejection := rfl
@[simp] theorem State.withGesture_padRejectionReady (x : Gesture) : (s.withGesture x).padRejectionReady = s.padRejectionReady := rfl
@[simp] theorem State.withGesture_panelRejection (x : Gesture) : (s.withGesture x).panelRejection = s.panelRejection := rfl
@[simp] theorem State.withGesture_panelRejectionReady (x : Gesture) : (s.withGesture x).panelRejectionReady = s.panelRejectionReady := rfl
@[simp] theorem State.withGesture_penBlock (x : Gesture) : (s.withGesture x).penBlock = s.penBlock := rfl
@[simp] theorem State.withGesture_penBlockReady (x : Gesture) : (s.withGesture x).penBlockReady = s.penBlockReady := rfl
@[simp] theorem State.withGesture_gestureTable (x : Gesture) : (s.withGesture x).gestureTable = s.gestureTable := rfl
@[simp] theorem State.withGesture_gestureReady (x : Gesture) : (s.withGesture x).gestureReady = s.gestureReady := rfl
@[simp] theorem State.withGesture_curve (x : Gesture) : (s.withGesture x).curve = s.curve := rfl
@[simp] theorem State.withGesture_slots (x : Gesture) : (s.withGesture x).slots = s.slots := rfl
@[simp] theorem State.withGesture_nextContact (x : Gesture) : (s.withGesture x).nextContact = s.nextContact := rfl
@[simp] theorem State.withGesture_switchReported (x : Gesture) : (s.withGesture x).switchReported = s.switchReported := rfl
@[simp] theorem State.withGesture_guard (x : Gesture) : (s.withGesture x).guard = s.guard := rfl
@[simp] theorem State.withGesture_linger (x : Gesture) : (s.withGesture x).linger = s.linger := rfl
@[simp] theorem State.withGesture_pen (x : Gesture) : (s.withGesture x).pen = s.pen := rfl
@[simp] theorem State.withGesture_penCorrected (x : Gesture) : (s.withGesture x).penCorrected = s.penCorrected := rfl
@[simp] theorem State.withGesture_penUncorrectable (x : Gesture) : (s.withGesture x).penUncorrectable = s.penUncorrectable := rfl
@[simp] theorem State.withGesture_gesture (x : Gesture) : (s.withGesture x).gesture = x := rfl
@[simp] theorem State.withGesture_queue (x : Gesture) : (s.withGesture x).queue = s.queue := rfl
@[simp] theorem State.withGesture_mergedCount (x : Gesture) : (s.withGesture x).mergedCount = s.mergedCount := rfl
@[simp] theorem State.withGesture_deferredCount (x : Gesture) : (s.withGesture x).deferredCount = s.deferredCount := rfl
@[simp] theorem State.withGesture_droppedCount (x : Gesture) : (s.withGesture x).droppedCount = s.droppedCount := rfl
@[simp] theorem State.withGesture_queueBlock (x : Gesture) : (s.withGesture x).queueBlock = s.queueBlock := rfl
@[simp] theorem State.withGesture_attn (x : Gesture) : (s.withGesture x).attn = s.attn := rfl
@[simp] theorem State.withGesture_packetError (x : Gesture) : (s.withGesture x).packetError = s.packetError := rfl
@[simp] theorem State.withGesture_requestRefused (x : Gesture) : (s.withGesture x).requestRefused = s.requestRefused := rfl
@[simp] theorem State.withGesture_packetCrcCount (x : Gesture) : (s.withGesture x).packetCrcCount = s.packetCrcCount := rfl
@[simp] theorem State.withGesture_refusedCount (x : Gesture) : (s.withGesture x).refusedCount = s.refusedCount := rfl
@[simp] theorem State.withGesture_transaction (x : Gesture) : (s.withGesture x).transaction = s.transaction := rfl
@[simp] theorem State.withGesture_buffer (x : Gesture) : (s.withGesture x).buffer = s.buffer := rfl
@[simp] theorem State.withGesture_headWaited (x : Gesture) : (s.withGesture x).headWaited = s.headWaited := rfl
@[simp] theorem State.withGesture_pendingCapture (x : Gesture) : (s.withGesture x).pendingCapture = s.pendingCapture := rfl
@[simp] theorem State.withGesture_captureBuffer (x : Gesture) : (s.withGesture x).captureBuffer = s.captureBuffer := rfl
@[simp] theorem State.withGesture_fault (x : Gesture) : (s.withGesture x).fault = s.fault := rfl
@[simp] theorem State.withGesture_posture (x : Gesture) : (s.withGesture x).posture = s.posture := rfl
@[simp] theorem State.withGesture_free (x : Gesture) : (s.withGesture x).free = s.free := rfl
@[simp] theorem State.withGesture_pending (x : Gesture) : (s.withGesture x).pending = s.pending := rfl
@[simp] theorem State.withGesture_surface (x : Gesture) (i : SurfaceId) : (s.withGesture x).surface i = s.surface i := by
  cases i <;> rfl

@[simp] theorem State.withPen_started (x : PenRecord) : (s.withPen x).started = s.started := rfl
@[simp] theorem State.withPen_straps (x : PenRecord) : (s.withPen x).straps = s.straps := rfl
@[simp] theorem State.withPen_cyclesPerTick (x : PenRecord) : (s.withPen x).cyclesPerTick = s.cyclesPerTick := rfl
@[simp] theorem State.withPen_time (x : PenRecord) : (s.withPen x).time = s.time := rfl
@[simp] theorem State.withPen_resetCause (x : PenRecord) : (s.withPen x).resetCause = s.resetCause := rfl
@[simp] theorem State.withPen_pad (x : PenRecord) : (s.withPen x).pad = s.pad := rfl
@[simp] theorem State.withPen_panel (x : PenRecord) : (s.withPen x).panel = s.panel := rfl
@[simp] theorem State.withPen_padRejection (x : PenRecord) : (s.withPen x).padRejection = s.padRejection := rfl
@[simp] theorem State.withPen_padRejectionReady (x : PenRecord) : (s.withPen x).padRejectionReady = s.padRejectionReady := rfl
@[simp] theorem State.withPen_panelRejection (x : PenRecord) : (s.withPen x).panelRejection = s.panelRejection := rfl
@[simp] theorem State.withPen_panelRejectionReady (x : PenRecord) : (s.withPen x).panelRejectionReady = s.panelRejectionReady := rfl
@[simp] theorem State.withPen_penBlock (x : PenRecord) : (s.withPen x).penBlock = s.penBlock := rfl
@[simp] theorem State.withPen_penBlockReady (x : PenRecord) : (s.withPen x).penBlockReady = s.penBlockReady := rfl
@[simp] theorem State.withPen_gestureTable (x : PenRecord) : (s.withPen x).gestureTable = s.gestureTable := rfl
@[simp] theorem State.withPen_gestureReady (x : PenRecord) : (s.withPen x).gestureReady = s.gestureReady := rfl
@[simp] theorem State.withPen_curve (x : PenRecord) : (s.withPen x).curve = s.curve := rfl
@[simp] theorem State.withPen_slots (x : PenRecord) : (s.withPen x).slots = s.slots := rfl
@[simp] theorem State.withPen_nextContact (x : PenRecord) : (s.withPen x).nextContact = s.nextContact := rfl
@[simp] theorem State.withPen_switchReported (x : PenRecord) : (s.withPen x).switchReported = s.switchReported := rfl
@[simp] theorem State.withPen_guard (x : PenRecord) : (s.withPen x).guard = s.guard := rfl
@[simp] theorem State.withPen_linger (x : PenRecord) : (s.withPen x).linger = s.linger := rfl
@[simp] theorem State.withPen_pen (x : PenRecord) : (s.withPen x).pen = x := rfl
@[simp] theorem State.withPen_penCorrected (x : PenRecord) : (s.withPen x).penCorrected = s.penCorrected := rfl
@[simp] theorem State.withPen_penUncorrectable (x : PenRecord) : (s.withPen x).penUncorrectable = s.penUncorrectable := rfl
@[simp] theorem State.withPen_gesture (x : PenRecord) : (s.withPen x).gesture = s.gesture := rfl
@[simp] theorem State.withPen_queue (x : PenRecord) : (s.withPen x).queue = s.queue := rfl
@[simp] theorem State.withPen_mergedCount (x : PenRecord) : (s.withPen x).mergedCount = s.mergedCount := rfl
@[simp] theorem State.withPen_deferredCount (x : PenRecord) : (s.withPen x).deferredCount = s.deferredCount := rfl
@[simp] theorem State.withPen_droppedCount (x : PenRecord) : (s.withPen x).droppedCount = s.droppedCount := rfl
@[simp] theorem State.withPen_queueBlock (x : PenRecord) : (s.withPen x).queueBlock = s.queueBlock := rfl
@[simp] theorem State.withPen_attn (x : PenRecord) : (s.withPen x).attn = s.attn := rfl
@[simp] theorem State.withPen_packetError (x : PenRecord) : (s.withPen x).packetError = s.packetError := rfl
@[simp] theorem State.withPen_requestRefused (x : PenRecord) : (s.withPen x).requestRefused = s.requestRefused := rfl
@[simp] theorem State.withPen_packetCrcCount (x : PenRecord) : (s.withPen x).packetCrcCount = s.packetCrcCount := rfl
@[simp] theorem State.withPen_refusedCount (x : PenRecord) : (s.withPen x).refusedCount = s.refusedCount := rfl
@[simp] theorem State.withPen_transaction (x : PenRecord) : (s.withPen x).transaction = s.transaction := rfl
@[simp] theorem State.withPen_buffer (x : PenRecord) : (s.withPen x).buffer = s.buffer := rfl
@[simp] theorem State.withPen_headWaited (x : PenRecord) : (s.withPen x).headWaited = s.headWaited := rfl
@[simp] theorem State.withPen_pendingCapture (x : PenRecord) : (s.withPen x).pendingCapture = s.pendingCapture := rfl
@[simp] theorem State.withPen_captureBuffer (x : PenRecord) : (s.withPen x).captureBuffer = s.captureBuffer := rfl
@[simp] theorem State.withPen_fault (x : PenRecord) : (s.withPen x).fault = s.fault := rfl
@[simp] theorem State.withPen_posture (x : PenRecord) : (s.withPen x).posture = s.posture := rfl
@[simp] theorem State.withPen_free (x : PenRecord) : (s.withPen x).free = s.free := rfl
@[simp] theorem State.withPen_pending (x : PenRecord) : (s.withPen x).pending = s.pending := rfl
@[simp] theorem State.withPen_surface (x : PenRecord) (i : SurfaceId) : (s.withPen x).surface i = s.surface i := by
  cases i <;> rfl

@[simp] theorem State.withLinger_started (x : Option Linger) : (s.withLinger x).started = s.started := rfl
@[simp] theorem State.withLinger_straps (x : Option Linger) : (s.withLinger x).straps = s.straps := rfl
@[simp] theorem State.withLinger_cyclesPerTick (x : Option Linger) : (s.withLinger x).cyclesPerTick = s.cyclesPerTick := rfl
@[simp] theorem State.withLinger_time (x : Option Linger) : (s.withLinger x).time = s.time := rfl
@[simp] theorem State.withLinger_resetCause (x : Option Linger) : (s.withLinger x).resetCause = s.resetCause := rfl
@[simp] theorem State.withLinger_pad (x : Option Linger) : (s.withLinger x).pad = s.pad := rfl
@[simp] theorem State.withLinger_panel (x : Option Linger) : (s.withLinger x).panel = s.panel := rfl
@[simp] theorem State.withLinger_padRejection (x : Option Linger) : (s.withLinger x).padRejection = s.padRejection := rfl
@[simp] theorem State.withLinger_padRejectionReady (x : Option Linger) : (s.withLinger x).padRejectionReady = s.padRejectionReady := rfl
@[simp] theorem State.withLinger_panelRejection (x : Option Linger) : (s.withLinger x).panelRejection = s.panelRejection := rfl
@[simp] theorem State.withLinger_panelRejectionReady (x : Option Linger) : (s.withLinger x).panelRejectionReady = s.panelRejectionReady := rfl
@[simp] theorem State.withLinger_penBlock (x : Option Linger) : (s.withLinger x).penBlock = s.penBlock := rfl
@[simp] theorem State.withLinger_penBlockReady (x : Option Linger) : (s.withLinger x).penBlockReady = s.penBlockReady := rfl
@[simp] theorem State.withLinger_gestureTable (x : Option Linger) : (s.withLinger x).gestureTable = s.gestureTable := rfl
@[simp] theorem State.withLinger_gestureReady (x : Option Linger) : (s.withLinger x).gestureReady = s.gestureReady := rfl
@[simp] theorem State.withLinger_curve (x : Option Linger) : (s.withLinger x).curve = s.curve := rfl
@[simp] theorem State.withLinger_slots (x : Option Linger) : (s.withLinger x).slots = s.slots := rfl
@[simp] theorem State.withLinger_nextContact (x : Option Linger) : (s.withLinger x).nextContact = s.nextContact := rfl
@[simp] theorem State.withLinger_switchReported (x : Option Linger) : (s.withLinger x).switchReported = s.switchReported := rfl
@[simp] theorem State.withLinger_guard (x : Option Linger) : (s.withLinger x).guard = s.guard := rfl
@[simp] theorem State.withLinger_linger (x : Option Linger) : (s.withLinger x).linger = x := rfl
@[simp] theorem State.withLinger_pen (x : Option Linger) : (s.withLinger x).pen = s.pen := rfl
@[simp] theorem State.withLinger_penCorrected (x : Option Linger) : (s.withLinger x).penCorrected = s.penCorrected := rfl
@[simp] theorem State.withLinger_penUncorrectable (x : Option Linger) : (s.withLinger x).penUncorrectable = s.penUncorrectable := rfl
@[simp] theorem State.withLinger_gesture (x : Option Linger) : (s.withLinger x).gesture = s.gesture := rfl
@[simp] theorem State.withLinger_queue (x : Option Linger) : (s.withLinger x).queue = s.queue := rfl
@[simp] theorem State.withLinger_mergedCount (x : Option Linger) : (s.withLinger x).mergedCount = s.mergedCount := rfl
@[simp] theorem State.withLinger_deferredCount (x : Option Linger) : (s.withLinger x).deferredCount = s.deferredCount := rfl
@[simp] theorem State.withLinger_droppedCount (x : Option Linger) : (s.withLinger x).droppedCount = s.droppedCount := rfl
@[simp] theorem State.withLinger_queueBlock (x : Option Linger) : (s.withLinger x).queueBlock = s.queueBlock := rfl
@[simp] theorem State.withLinger_attn (x : Option Linger) : (s.withLinger x).attn = s.attn := rfl
@[simp] theorem State.withLinger_packetError (x : Option Linger) : (s.withLinger x).packetError = s.packetError := rfl
@[simp] theorem State.withLinger_requestRefused (x : Option Linger) : (s.withLinger x).requestRefused = s.requestRefused := rfl
@[simp] theorem State.withLinger_packetCrcCount (x : Option Linger) : (s.withLinger x).packetCrcCount = s.packetCrcCount := rfl
@[simp] theorem State.withLinger_refusedCount (x : Option Linger) : (s.withLinger x).refusedCount = s.refusedCount := rfl
@[simp] theorem State.withLinger_transaction (x : Option Linger) : (s.withLinger x).transaction = s.transaction := rfl
@[simp] theorem State.withLinger_buffer (x : Option Linger) : (s.withLinger x).buffer = s.buffer := rfl
@[simp] theorem State.withLinger_headWaited (x : Option Linger) : (s.withLinger x).headWaited = s.headWaited := rfl
@[simp] theorem State.withLinger_pendingCapture (x : Option Linger) : (s.withLinger x).pendingCapture = s.pendingCapture := rfl
@[simp] theorem State.withLinger_captureBuffer (x : Option Linger) : (s.withLinger x).captureBuffer = s.captureBuffer := rfl
@[simp] theorem State.withLinger_fault (x : Option Linger) : (s.withLinger x).fault = s.fault := rfl
@[simp] theorem State.withLinger_posture (x : Option Linger) : (s.withLinger x).posture = s.posture := rfl
@[simp] theorem State.withLinger_free (x : Option Linger) : (s.withLinger x).free = s.free := rfl
@[simp] theorem State.withLinger_pending (x : Option Linger) : (s.withLinger x).pending = s.pending := rfl
@[simp] theorem State.withLinger_surface (x : Option Linger) (i : SurfaceId) : (s.withLinger x).surface i = s.surface i := by
  cases i <;> rfl

@[simp] theorem State.withFault_started (x : Option FaultRecord) : (s.withFault x).started = s.started := rfl
@[simp] theorem State.withFault_straps (x : Option FaultRecord) : (s.withFault x).straps = s.straps := rfl
@[simp] theorem State.withFault_cyclesPerTick (x : Option FaultRecord) : (s.withFault x).cyclesPerTick = s.cyclesPerTick := rfl
@[simp] theorem State.withFault_time (x : Option FaultRecord) : (s.withFault x).time = s.time := rfl
@[simp] theorem State.withFault_resetCause (x : Option FaultRecord) : (s.withFault x).resetCause = s.resetCause := rfl
@[simp] theorem State.withFault_pad (x : Option FaultRecord) : (s.withFault x).pad = s.pad := rfl
@[simp] theorem State.withFault_panel (x : Option FaultRecord) : (s.withFault x).panel = s.panel := rfl
@[simp] theorem State.withFault_padRejection (x : Option FaultRecord) : (s.withFault x).padRejection = s.padRejection := rfl
@[simp] theorem State.withFault_padRejectionReady (x : Option FaultRecord) : (s.withFault x).padRejectionReady = s.padRejectionReady := rfl
@[simp] theorem State.withFault_panelRejection (x : Option FaultRecord) : (s.withFault x).panelRejection = s.panelRejection := rfl
@[simp] theorem State.withFault_panelRejectionReady (x : Option FaultRecord) : (s.withFault x).panelRejectionReady = s.panelRejectionReady := rfl
@[simp] theorem State.withFault_penBlock (x : Option FaultRecord) : (s.withFault x).penBlock = s.penBlock := rfl
@[simp] theorem State.withFault_penBlockReady (x : Option FaultRecord) : (s.withFault x).penBlockReady = s.penBlockReady := rfl
@[simp] theorem State.withFault_gestureTable (x : Option FaultRecord) : (s.withFault x).gestureTable = s.gestureTable := rfl
@[simp] theorem State.withFault_gestureReady (x : Option FaultRecord) : (s.withFault x).gestureReady = s.gestureReady := rfl
@[simp] theorem State.withFault_curve (x : Option FaultRecord) : (s.withFault x).curve = s.curve := rfl
@[simp] theorem State.withFault_slots (x : Option FaultRecord) : (s.withFault x).slots = s.slots := rfl
@[simp] theorem State.withFault_nextContact (x : Option FaultRecord) : (s.withFault x).nextContact = s.nextContact := rfl
@[simp] theorem State.withFault_switchReported (x : Option FaultRecord) : (s.withFault x).switchReported = s.switchReported := rfl
@[simp] theorem State.withFault_guard (x : Option FaultRecord) : (s.withFault x).guard = s.guard := rfl
@[simp] theorem State.withFault_linger (x : Option FaultRecord) : (s.withFault x).linger = s.linger := rfl
@[simp] theorem State.withFault_pen (x : Option FaultRecord) : (s.withFault x).pen = s.pen := rfl
@[simp] theorem State.withFault_penCorrected (x : Option FaultRecord) : (s.withFault x).penCorrected = s.penCorrected := rfl
@[simp] theorem State.withFault_penUncorrectable (x : Option FaultRecord) : (s.withFault x).penUncorrectable = s.penUncorrectable := rfl
@[simp] theorem State.withFault_gesture (x : Option FaultRecord) : (s.withFault x).gesture = s.gesture := rfl
@[simp] theorem State.withFault_queue (x : Option FaultRecord) : (s.withFault x).queue = s.queue := rfl
@[simp] theorem State.withFault_mergedCount (x : Option FaultRecord) : (s.withFault x).mergedCount = s.mergedCount := rfl
@[simp] theorem State.withFault_deferredCount (x : Option FaultRecord) : (s.withFault x).deferredCount = s.deferredCount := rfl
@[simp] theorem State.withFault_droppedCount (x : Option FaultRecord) : (s.withFault x).droppedCount = s.droppedCount := rfl
@[simp] theorem State.withFault_queueBlock (x : Option FaultRecord) : (s.withFault x).queueBlock = s.queueBlock := rfl
@[simp] theorem State.withFault_attn (x : Option FaultRecord) : (s.withFault x).attn = s.attn := rfl
@[simp] theorem State.withFault_packetError (x : Option FaultRecord) : (s.withFault x).packetError = s.packetError := rfl
@[simp] theorem State.withFault_requestRefused (x : Option FaultRecord) : (s.withFault x).requestRefused = s.requestRefused := rfl
@[simp] theorem State.withFault_packetCrcCount (x : Option FaultRecord) : (s.withFault x).packetCrcCount = s.packetCrcCount := rfl
@[simp] theorem State.withFault_refusedCount (x : Option FaultRecord) : (s.withFault x).refusedCount = s.refusedCount := rfl
@[simp] theorem State.withFault_transaction (x : Option FaultRecord) : (s.withFault x).transaction = s.transaction := rfl
@[simp] theorem State.withFault_buffer (x : Option FaultRecord) : (s.withFault x).buffer = s.buffer := rfl
@[simp] theorem State.withFault_headWaited (x : Option FaultRecord) : (s.withFault x).headWaited = s.headWaited := rfl
@[simp] theorem State.withFault_pendingCapture (x : Option FaultRecord) : (s.withFault x).pendingCapture = s.pendingCapture := rfl
@[simp] theorem State.withFault_captureBuffer (x : Option FaultRecord) : (s.withFault x).captureBuffer = s.captureBuffer := rfl
@[simp] theorem State.withFault_fault (x : Option FaultRecord) : (s.withFault x).fault = x := rfl
@[simp] theorem State.withFault_posture (x : Option FaultRecord) : (s.withFault x).posture = s.posture := rfl
@[simp] theorem State.withFault_free (x : Option FaultRecord) : (s.withFault x).free = s.free := rfl
@[simp] theorem State.withFault_pending (x : Option FaultRecord) : (s.withFault x).pending = s.pending := rfl
@[simp] theorem State.withFault_surface (x : Option FaultRecord) (i : SurfaceId) : (s.withFault x).surface i = s.surface i := by
  cases i <;> rfl

@[simp] theorem State.withBuffer_started (x : List Request) : (s.withBuffer x).started = s.started := rfl
@[simp] theorem State.withBuffer_straps (x : List Request) : (s.withBuffer x).straps = s.straps := rfl
@[simp] theorem State.withBuffer_cyclesPerTick (x : List Request) : (s.withBuffer x).cyclesPerTick = s.cyclesPerTick := rfl
@[simp] theorem State.withBuffer_time (x : List Request) : (s.withBuffer x).time = s.time := rfl
@[simp] theorem State.withBuffer_resetCause (x : List Request) : (s.withBuffer x).resetCause = s.resetCause := rfl
@[simp] theorem State.withBuffer_pad (x : List Request) : (s.withBuffer x).pad = s.pad := rfl
@[simp] theorem State.withBuffer_panel (x : List Request) : (s.withBuffer x).panel = s.panel := rfl
@[simp] theorem State.withBuffer_padRejection (x : List Request) : (s.withBuffer x).padRejection = s.padRejection := rfl
@[simp] theorem State.withBuffer_padRejectionReady (x : List Request) : (s.withBuffer x).padRejectionReady = s.padRejectionReady := rfl
@[simp] theorem State.withBuffer_panelRejection (x : List Request) : (s.withBuffer x).panelRejection = s.panelRejection := rfl
@[simp] theorem State.withBuffer_panelRejectionReady (x : List Request) : (s.withBuffer x).panelRejectionReady = s.panelRejectionReady := rfl
@[simp] theorem State.withBuffer_penBlock (x : List Request) : (s.withBuffer x).penBlock = s.penBlock := rfl
@[simp] theorem State.withBuffer_penBlockReady (x : List Request) : (s.withBuffer x).penBlockReady = s.penBlockReady := rfl
@[simp] theorem State.withBuffer_gestureTable (x : List Request) : (s.withBuffer x).gestureTable = s.gestureTable := rfl
@[simp] theorem State.withBuffer_gestureReady (x : List Request) : (s.withBuffer x).gestureReady = s.gestureReady := rfl
@[simp] theorem State.withBuffer_curve (x : List Request) : (s.withBuffer x).curve = s.curve := rfl
@[simp] theorem State.withBuffer_slots (x : List Request) : (s.withBuffer x).slots = s.slots := rfl
@[simp] theorem State.withBuffer_nextContact (x : List Request) : (s.withBuffer x).nextContact = s.nextContact := rfl
@[simp] theorem State.withBuffer_switchReported (x : List Request) : (s.withBuffer x).switchReported = s.switchReported := rfl
@[simp] theorem State.withBuffer_guard (x : List Request) : (s.withBuffer x).guard = s.guard := rfl
@[simp] theorem State.withBuffer_linger (x : List Request) : (s.withBuffer x).linger = s.linger := rfl
@[simp] theorem State.withBuffer_pen (x : List Request) : (s.withBuffer x).pen = s.pen := rfl
@[simp] theorem State.withBuffer_penCorrected (x : List Request) : (s.withBuffer x).penCorrected = s.penCorrected := rfl
@[simp] theorem State.withBuffer_penUncorrectable (x : List Request) : (s.withBuffer x).penUncorrectable = s.penUncorrectable := rfl
@[simp] theorem State.withBuffer_gesture (x : List Request) : (s.withBuffer x).gesture = s.gesture := rfl
@[simp] theorem State.withBuffer_queue (x : List Request) : (s.withBuffer x).queue = s.queue := rfl
@[simp] theorem State.withBuffer_mergedCount (x : List Request) : (s.withBuffer x).mergedCount = s.mergedCount := rfl
@[simp] theorem State.withBuffer_deferredCount (x : List Request) : (s.withBuffer x).deferredCount = s.deferredCount := rfl
@[simp] theorem State.withBuffer_droppedCount (x : List Request) : (s.withBuffer x).droppedCount = s.droppedCount := rfl
@[simp] theorem State.withBuffer_queueBlock (x : List Request) : (s.withBuffer x).queueBlock = s.queueBlock := rfl
@[simp] theorem State.withBuffer_attn (x : List Request) : (s.withBuffer x).attn = s.attn := rfl
@[simp] theorem State.withBuffer_packetError (x : List Request) : (s.withBuffer x).packetError = s.packetError := rfl
@[simp] theorem State.withBuffer_requestRefused (x : List Request) : (s.withBuffer x).requestRefused = s.requestRefused := rfl
@[simp] theorem State.withBuffer_packetCrcCount (x : List Request) : (s.withBuffer x).packetCrcCount = s.packetCrcCount := rfl
@[simp] theorem State.withBuffer_refusedCount (x : List Request) : (s.withBuffer x).refusedCount = s.refusedCount := rfl
@[simp] theorem State.withBuffer_transaction (x : List Request) : (s.withBuffer x).transaction = s.transaction := rfl
@[simp] theorem State.withBuffer_buffer (x : List Request) : (s.withBuffer x).buffer = x := rfl
@[simp] theorem State.withBuffer_headWaited (x : List Request) : (s.withBuffer x).headWaited = s.headWaited := rfl
@[simp] theorem State.withBuffer_pendingCapture (x : List Request) : (s.withBuffer x).pendingCapture = s.pendingCapture := rfl
@[simp] theorem State.withBuffer_captureBuffer (x : List Request) : (s.withBuffer x).captureBuffer = s.captureBuffer := rfl
@[simp] theorem State.withBuffer_fault (x : List Request) : (s.withBuffer x).fault = s.fault := rfl
@[simp] theorem State.withBuffer_posture (x : List Request) : (s.withBuffer x).posture = s.posture := rfl
@[simp] theorem State.withBuffer_free (x : List Request) : (s.withBuffer x).free = s.free := rfl
@[simp] theorem State.withBuffer_pending (x : List Request) : (s.withBuffer x).pending = s.pending := rfl
@[simp] theorem State.withBuffer_surface (x : List Request) (i : SurfaceId) : (s.withBuffer x).surface i = s.surface i := by
  cases i <;> rfl

@[simp] theorem State.popHead_started : (s.popHead).started = s.started := rfl
@[simp] theorem State.popHead_straps : (s.popHead).straps = s.straps := rfl
@[simp] theorem State.popHead_cyclesPerTick : (s.popHead).cyclesPerTick = s.cyclesPerTick := rfl
@[simp] theorem State.popHead_time : (s.popHead).time = s.time := rfl
@[simp] theorem State.popHead_resetCause : (s.popHead).resetCause = s.resetCause := rfl
@[simp] theorem State.popHead_pad : (s.popHead).pad = s.pad := rfl
@[simp] theorem State.popHead_panel : (s.popHead).panel = s.panel := rfl
@[simp] theorem State.popHead_padRejection : (s.popHead).padRejection = s.padRejection := rfl
@[simp] theorem State.popHead_padRejectionReady : (s.popHead).padRejectionReady = s.padRejectionReady := rfl
@[simp] theorem State.popHead_panelRejection : (s.popHead).panelRejection = s.panelRejection := rfl
@[simp] theorem State.popHead_panelRejectionReady : (s.popHead).panelRejectionReady = s.panelRejectionReady := rfl
@[simp] theorem State.popHead_penBlock : (s.popHead).penBlock = s.penBlock := rfl
@[simp] theorem State.popHead_penBlockReady : (s.popHead).penBlockReady = s.penBlockReady := rfl
@[simp] theorem State.popHead_gestureTable : (s.popHead).gestureTable = s.gestureTable := rfl
@[simp] theorem State.popHead_gestureReady : (s.popHead).gestureReady = s.gestureReady := rfl
@[simp] theorem State.popHead_curve : (s.popHead).curve = s.curve := rfl
@[simp] theorem State.popHead_slots : (s.popHead).slots = s.slots := rfl
@[simp] theorem State.popHead_nextContact : (s.popHead).nextContact = s.nextContact := rfl
@[simp] theorem State.popHead_switchReported : (s.popHead).switchReported = s.switchReported := rfl
@[simp] theorem State.popHead_guard : (s.popHead).guard = s.guard := rfl
@[simp] theorem State.popHead_linger : (s.popHead).linger = s.linger := rfl
@[simp] theorem State.popHead_pen : (s.popHead).pen = s.pen := rfl
@[simp] theorem State.popHead_penCorrected : (s.popHead).penCorrected = s.penCorrected := rfl
@[simp] theorem State.popHead_penUncorrectable : (s.popHead).penUncorrectable = s.penUncorrectable := rfl
@[simp] theorem State.popHead_gesture : (s.popHead).gesture = s.gesture := rfl
@[simp] theorem State.popHead_queue : (s.popHead).queue = s.queue := rfl
@[simp] theorem State.popHead_mergedCount : (s.popHead).mergedCount = s.mergedCount := rfl
@[simp] theorem State.popHead_deferredCount : (s.popHead).deferredCount = s.deferredCount := rfl
@[simp] theorem State.popHead_droppedCount : (s.popHead).droppedCount = s.droppedCount := rfl
@[simp] theorem State.popHead_queueBlock : (s.popHead).queueBlock = s.queueBlock := rfl
@[simp] theorem State.popHead_attn : (s.popHead).attn = s.attn := rfl
@[simp] theorem State.popHead_packetError : (s.popHead).packetError = s.packetError := rfl
@[simp] theorem State.popHead_requestRefused : (s.popHead).requestRefused = s.requestRefused := rfl
@[simp] theorem State.popHead_packetCrcCount : (s.popHead).packetCrcCount = s.packetCrcCount := rfl
@[simp] theorem State.popHead_refusedCount : (s.popHead).refusedCount = s.refusedCount := rfl
@[simp] theorem State.popHead_transaction : (s.popHead).transaction = s.transaction := rfl
@[simp] theorem State.popHead_buffer : (s.popHead).buffer = s.buffer.tail := rfl
@[simp] theorem State.popHead_headWaited : (s.popHead).headWaited = false := rfl
@[simp] theorem State.popHead_pendingCapture : (s.popHead).pendingCapture = s.pendingCapture := rfl
@[simp] theorem State.popHead_captureBuffer : (s.popHead).captureBuffer = s.captureBuffer := rfl
@[simp] theorem State.popHead_fault : (s.popHead).fault = s.fault := rfl
@[simp] theorem State.popHead_posture : (s.popHead).posture = s.posture := rfl
@[simp] theorem State.popHead_free : (s.popHead).free = s.free := rfl
@[simp] theorem State.popHead_pending : (s.popHead).pending = s.pending := rfl
@[simp] theorem State.popHead_surface (i : SurfaceId) : (s.popHead).surface i = s.surface i := by
  cases i <;> rfl

@[simp] theorem State.noteWait_started : (s.noteWait).started = s.started := rfl
@[simp] theorem State.noteWait_straps : (s.noteWait).straps = s.straps := rfl
@[simp] theorem State.noteWait_cyclesPerTick : (s.noteWait).cyclesPerTick = s.cyclesPerTick := rfl
@[simp] theorem State.noteWait_time : (s.noteWait).time = s.time := rfl
@[simp] theorem State.noteWait_resetCause : (s.noteWait).resetCause = s.resetCause := rfl
@[simp] theorem State.noteWait_pad : (s.noteWait).pad = s.pad := rfl
@[simp] theorem State.noteWait_panel : (s.noteWait).panel = s.panel := rfl
@[simp] theorem State.noteWait_padRejection : (s.noteWait).padRejection = s.padRejection := rfl
@[simp] theorem State.noteWait_padRejectionReady : (s.noteWait).padRejectionReady = s.padRejectionReady := rfl
@[simp] theorem State.noteWait_panelRejection : (s.noteWait).panelRejection = s.panelRejection := rfl
@[simp] theorem State.noteWait_panelRejectionReady : (s.noteWait).panelRejectionReady = s.panelRejectionReady := rfl
@[simp] theorem State.noteWait_penBlock : (s.noteWait).penBlock = s.penBlock := rfl
@[simp] theorem State.noteWait_penBlockReady : (s.noteWait).penBlockReady = s.penBlockReady := rfl
@[simp] theorem State.noteWait_gestureTable : (s.noteWait).gestureTable = s.gestureTable := rfl
@[simp] theorem State.noteWait_gestureReady : (s.noteWait).gestureReady = s.gestureReady := rfl
@[simp] theorem State.noteWait_curve : (s.noteWait).curve = s.curve := rfl
@[simp] theorem State.noteWait_slots : (s.noteWait).slots = s.slots := rfl
@[simp] theorem State.noteWait_nextContact : (s.noteWait).nextContact = s.nextContact := rfl
@[simp] theorem State.noteWait_switchReported : (s.noteWait).switchReported = s.switchReported := rfl
@[simp] theorem State.noteWait_guard : (s.noteWait).guard = s.guard := rfl
@[simp] theorem State.noteWait_linger : (s.noteWait).linger = s.linger := rfl
@[simp] theorem State.noteWait_pen : (s.noteWait).pen = s.pen := rfl
@[simp] theorem State.noteWait_penCorrected : (s.noteWait).penCorrected = s.penCorrected := rfl
@[simp] theorem State.noteWait_penUncorrectable : (s.noteWait).penUncorrectable = s.penUncorrectable := rfl
@[simp] theorem State.noteWait_gesture : (s.noteWait).gesture = s.gesture := rfl
@[simp] theorem State.noteWait_queue : (s.noteWait).queue = s.queue := rfl
@[simp] theorem State.noteWait_mergedCount : (s.noteWait).mergedCount = s.mergedCount := rfl
@[simp] theorem State.noteWait_deferredCount : (s.noteWait).deferredCount = s.deferredCount := rfl
@[simp] theorem State.noteWait_droppedCount : (s.noteWait).droppedCount = s.droppedCount := rfl
@[simp] theorem State.noteWait_queueBlock : (s.noteWait).queueBlock = s.queueBlock := rfl
@[simp] theorem State.noteWait_attn : (s.noteWait).attn = s.attn := rfl
@[simp] theorem State.noteWait_packetError : (s.noteWait).packetError = s.packetError := rfl
@[simp] theorem State.noteWait_requestRefused : (s.noteWait).requestRefused = s.requestRefused := rfl
@[simp] theorem State.noteWait_packetCrcCount : (s.noteWait).packetCrcCount = s.packetCrcCount := rfl
@[simp] theorem State.noteWait_refusedCount : (s.noteWait).refusedCount = s.refusedCount := rfl
@[simp] theorem State.noteWait_transaction : (s.noteWait).transaction = s.transaction := rfl
@[simp] theorem State.noteWait_buffer : (s.noteWait).buffer = s.buffer := rfl
@[simp] theorem State.noteWait_headWaited : (s.noteWait).headWaited = (s.headWaited || s.headWaits) := rfl
@[simp] theorem State.noteWait_pendingCapture : (s.noteWait).pendingCapture = s.pendingCapture := rfl
@[simp] theorem State.noteWait_captureBuffer : (s.noteWait).captureBuffer = s.captureBuffer := rfl
@[simp] theorem State.noteWait_fault : (s.noteWait).fault = s.fault := rfl
@[simp] theorem State.noteWait_posture : (s.noteWait).posture = s.posture := rfl
@[simp] theorem State.noteWait_free : (s.noteWait).free = s.free := rfl
@[simp] theorem State.noteWait_pending : (s.noteWait).pending = s.pending := rfl
@[simp] theorem State.noteWait_surface (i : SurfaceId) : (s.noteWait).surface i = s.surface i := by
  cases i <;> rfl

@[simp] theorem State.withPendingCapture_started (x : Option PendingCapture) : (s.withPendingCapture x).started = s.started := rfl
@[simp] theorem State.withPendingCapture_straps (x : Option PendingCapture) : (s.withPendingCapture x).straps = s.straps := rfl
@[simp] theorem State.withPendingCapture_cyclesPerTick (x : Option PendingCapture) : (s.withPendingCapture x).cyclesPerTick = s.cyclesPerTick := rfl
@[simp] theorem State.withPendingCapture_time (x : Option PendingCapture) : (s.withPendingCapture x).time = s.time := rfl
@[simp] theorem State.withPendingCapture_resetCause (x : Option PendingCapture) : (s.withPendingCapture x).resetCause = s.resetCause := rfl
@[simp] theorem State.withPendingCapture_pad (x : Option PendingCapture) : (s.withPendingCapture x).pad = s.pad := rfl
@[simp] theorem State.withPendingCapture_panel (x : Option PendingCapture) : (s.withPendingCapture x).panel = s.panel := rfl
@[simp] theorem State.withPendingCapture_padRejection (x : Option PendingCapture) : (s.withPendingCapture x).padRejection = s.padRejection := rfl
@[simp] theorem State.withPendingCapture_padRejectionReady (x : Option PendingCapture) : (s.withPendingCapture x).padRejectionReady = s.padRejectionReady := rfl
@[simp] theorem State.withPendingCapture_panelRejection (x : Option PendingCapture) : (s.withPendingCapture x).panelRejection = s.panelRejection := rfl
@[simp] theorem State.withPendingCapture_panelRejectionReady (x : Option PendingCapture) : (s.withPendingCapture x).panelRejectionReady = s.panelRejectionReady := rfl
@[simp] theorem State.withPendingCapture_penBlock (x : Option PendingCapture) : (s.withPendingCapture x).penBlock = s.penBlock := rfl
@[simp] theorem State.withPendingCapture_penBlockReady (x : Option PendingCapture) : (s.withPendingCapture x).penBlockReady = s.penBlockReady := rfl
@[simp] theorem State.withPendingCapture_gestureTable (x : Option PendingCapture) : (s.withPendingCapture x).gestureTable = s.gestureTable := rfl
@[simp] theorem State.withPendingCapture_gestureReady (x : Option PendingCapture) : (s.withPendingCapture x).gestureReady = s.gestureReady := rfl
@[simp] theorem State.withPendingCapture_curve (x : Option PendingCapture) : (s.withPendingCapture x).curve = s.curve := rfl
@[simp] theorem State.withPendingCapture_slots (x : Option PendingCapture) : (s.withPendingCapture x).slots = s.slots := rfl
@[simp] theorem State.withPendingCapture_nextContact (x : Option PendingCapture) : (s.withPendingCapture x).nextContact = s.nextContact := rfl
@[simp] theorem State.withPendingCapture_switchReported (x : Option PendingCapture) : (s.withPendingCapture x).switchReported = s.switchReported := rfl
@[simp] theorem State.withPendingCapture_guard (x : Option PendingCapture) : (s.withPendingCapture x).guard = s.guard := rfl
@[simp] theorem State.withPendingCapture_linger (x : Option PendingCapture) : (s.withPendingCapture x).linger = s.linger := rfl
@[simp] theorem State.withPendingCapture_pen (x : Option PendingCapture) : (s.withPendingCapture x).pen = s.pen := rfl
@[simp] theorem State.withPendingCapture_penCorrected (x : Option PendingCapture) : (s.withPendingCapture x).penCorrected = s.penCorrected := rfl
@[simp] theorem State.withPendingCapture_penUncorrectable (x : Option PendingCapture) : (s.withPendingCapture x).penUncorrectable = s.penUncorrectable := rfl
@[simp] theorem State.withPendingCapture_gesture (x : Option PendingCapture) : (s.withPendingCapture x).gesture = s.gesture := rfl
@[simp] theorem State.withPendingCapture_queue (x : Option PendingCapture) : (s.withPendingCapture x).queue = s.queue := rfl
@[simp] theorem State.withPendingCapture_mergedCount (x : Option PendingCapture) : (s.withPendingCapture x).mergedCount = s.mergedCount := rfl
@[simp] theorem State.withPendingCapture_deferredCount (x : Option PendingCapture) : (s.withPendingCapture x).deferredCount = s.deferredCount := rfl
@[simp] theorem State.withPendingCapture_droppedCount (x : Option PendingCapture) : (s.withPendingCapture x).droppedCount = s.droppedCount := rfl
@[simp] theorem State.withPendingCapture_queueBlock (x : Option PendingCapture) : (s.withPendingCapture x).queueBlock = s.queueBlock := rfl
@[simp] theorem State.withPendingCapture_attn (x : Option PendingCapture) : (s.withPendingCapture x).attn = s.attn := rfl
@[simp] theorem State.withPendingCapture_packetError (x : Option PendingCapture) : (s.withPendingCapture x).packetError = s.packetError := rfl
@[simp] theorem State.withPendingCapture_requestRefused (x : Option PendingCapture) : (s.withPendingCapture x).requestRefused = s.requestRefused := rfl
@[simp] theorem State.withPendingCapture_packetCrcCount (x : Option PendingCapture) : (s.withPendingCapture x).packetCrcCount = s.packetCrcCount := rfl
@[simp] theorem State.withPendingCapture_refusedCount (x : Option PendingCapture) : (s.withPendingCapture x).refusedCount = s.refusedCount := rfl
@[simp] theorem State.withPendingCapture_transaction (x : Option PendingCapture) : (s.withPendingCapture x).transaction = s.transaction := rfl
@[simp] theorem State.withPendingCapture_buffer (x : Option PendingCapture) : (s.withPendingCapture x).buffer = s.buffer := rfl
@[simp] theorem State.withPendingCapture_headWaited (x : Option PendingCapture) : (s.withPendingCapture x).headWaited = s.headWaited := rfl
@[simp] theorem State.withPendingCapture_pendingCapture (x : Option PendingCapture) : (s.withPendingCapture x).pendingCapture = x := rfl
@[simp] theorem State.withPendingCapture_captureBuffer (x : Option PendingCapture) : (s.withPendingCapture x).captureBuffer = s.captureBuffer := rfl
@[simp] theorem State.withPendingCapture_fault (x : Option PendingCapture) : (s.withPendingCapture x).fault = s.fault := rfl
@[simp] theorem State.withPendingCapture_posture (x : Option PendingCapture) : (s.withPendingCapture x).posture = s.posture := rfl
@[simp] theorem State.withPendingCapture_free (x : Option PendingCapture) : (s.withPendingCapture x).free = s.free := rfl
@[simp] theorem State.withPendingCapture_pending (x : Option PendingCapture) : (s.withPendingCapture x).pending = s.pending := rfl
@[simp] theorem State.withPendingCapture_surface (x : Option PendingCapture) (i : SurfaceId) : (s.withPendingCapture x).surface i = s.surface i := by
  cases i <;> rfl

@[simp] theorem State.withCaptureBuffer_started (x : Option CaptureBuffer) : (s.withCaptureBuffer x).started = s.started := rfl
@[simp] theorem State.withCaptureBuffer_straps (x : Option CaptureBuffer) : (s.withCaptureBuffer x).straps = s.straps := rfl
@[simp] theorem State.withCaptureBuffer_cyclesPerTick (x : Option CaptureBuffer) : (s.withCaptureBuffer x).cyclesPerTick = s.cyclesPerTick := rfl
@[simp] theorem State.withCaptureBuffer_time (x : Option CaptureBuffer) : (s.withCaptureBuffer x).time = s.time := rfl
@[simp] theorem State.withCaptureBuffer_resetCause (x : Option CaptureBuffer) : (s.withCaptureBuffer x).resetCause = s.resetCause := rfl
@[simp] theorem State.withCaptureBuffer_pad (x : Option CaptureBuffer) : (s.withCaptureBuffer x).pad = s.pad := rfl
@[simp] theorem State.withCaptureBuffer_panel (x : Option CaptureBuffer) : (s.withCaptureBuffer x).panel = s.panel := rfl
@[simp] theorem State.withCaptureBuffer_padRejection (x : Option CaptureBuffer) : (s.withCaptureBuffer x).padRejection = s.padRejection := rfl
@[simp] theorem State.withCaptureBuffer_padRejectionReady (x : Option CaptureBuffer) : (s.withCaptureBuffer x).padRejectionReady = s.padRejectionReady := rfl
@[simp] theorem State.withCaptureBuffer_panelRejection (x : Option CaptureBuffer) : (s.withCaptureBuffer x).panelRejection = s.panelRejection := rfl
@[simp] theorem State.withCaptureBuffer_panelRejectionReady (x : Option CaptureBuffer) : (s.withCaptureBuffer x).panelRejectionReady = s.panelRejectionReady := rfl
@[simp] theorem State.withCaptureBuffer_penBlock (x : Option CaptureBuffer) : (s.withCaptureBuffer x).penBlock = s.penBlock := rfl
@[simp] theorem State.withCaptureBuffer_penBlockReady (x : Option CaptureBuffer) : (s.withCaptureBuffer x).penBlockReady = s.penBlockReady := rfl
@[simp] theorem State.withCaptureBuffer_gestureTable (x : Option CaptureBuffer) : (s.withCaptureBuffer x).gestureTable = s.gestureTable := rfl
@[simp] theorem State.withCaptureBuffer_gestureReady (x : Option CaptureBuffer) : (s.withCaptureBuffer x).gestureReady = s.gestureReady := rfl
@[simp] theorem State.withCaptureBuffer_curve (x : Option CaptureBuffer) : (s.withCaptureBuffer x).curve = s.curve := rfl
@[simp] theorem State.withCaptureBuffer_slots (x : Option CaptureBuffer) : (s.withCaptureBuffer x).slots = s.slots := rfl
@[simp] theorem State.withCaptureBuffer_nextContact (x : Option CaptureBuffer) : (s.withCaptureBuffer x).nextContact = s.nextContact := rfl
@[simp] theorem State.withCaptureBuffer_switchReported (x : Option CaptureBuffer) : (s.withCaptureBuffer x).switchReported = s.switchReported := rfl
@[simp] theorem State.withCaptureBuffer_guard (x : Option CaptureBuffer) : (s.withCaptureBuffer x).guard = s.guard := rfl
@[simp] theorem State.withCaptureBuffer_linger (x : Option CaptureBuffer) : (s.withCaptureBuffer x).linger = s.linger := rfl
@[simp] theorem State.withCaptureBuffer_pen (x : Option CaptureBuffer) : (s.withCaptureBuffer x).pen = s.pen := rfl
@[simp] theorem State.withCaptureBuffer_penCorrected (x : Option CaptureBuffer) : (s.withCaptureBuffer x).penCorrected = s.penCorrected := rfl
@[simp] theorem State.withCaptureBuffer_penUncorrectable (x : Option CaptureBuffer) : (s.withCaptureBuffer x).penUncorrectable = s.penUncorrectable := rfl
@[simp] theorem State.withCaptureBuffer_gesture (x : Option CaptureBuffer) : (s.withCaptureBuffer x).gesture = s.gesture := rfl
@[simp] theorem State.withCaptureBuffer_queue (x : Option CaptureBuffer) : (s.withCaptureBuffer x).queue = s.queue := rfl
@[simp] theorem State.withCaptureBuffer_mergedCount (x : Option CaptureBuffer) : (s.withCaptureBuffer x).mergedCount = s.mergedCount := rfl
@[simp] theorem State.withCaptureBuffer_deferredCount (x : Option CaptureBuffer) : (s.withCaptureBuffer x).deferredCount = s.deferredCount := rfl
@[simp] theorem State.withCaptureBuffer_droppedCount (x : Option CaptureBuffer) : (s.withCaptureBuffer x).droppedCount = s.droppedCount := rfl
@[simp] theorem State.withCaptureBuffer_queueBlock (x : Option CaptureBuffer) : (s.withCaptureBuffer x).queueBlock = s.queueBlock := rfl
@[simp] theorem State.withCaptureBuffer_attn (x : Option CaptureBuffer) : (s.withCaptureBuffer x).attn = s.attn := rfl
@[simp] theorem State.withCaptureBuffer_packetError (x : Option CaptureBuffer) : (s.withCaptureBuffer x).packetError = s.packetError := rfl
@[simp] theorem State.withCaptureBuffer_requestRefused (x : Option CaptureBuffer) : (s.withCaptureBuffer x).requestRefused = s.requestRefused := rfl
@[simp] theorem State.withCaptureBuffer_packetCrcCount (x : Option CaptureBuffer) : (s.withCaptureBuffer x).packetCrcCount = s.packetCrcCount := rfl
@[simp] theorem State.withCaptureBuffer_refusedCount (x : Option CaptureBuffer) : (s.withCaptureBuffer x).refusedCount = s.refusedCount := rfl
@[simp] theorem State.withCaptureBuffer_transaction (x : Option CaptureBuffer) : (s.withCaptureBuffer x).transaction = s.transaction := rfl
@[simp] theorem State.withCaptureBuffer_buffer (x : Option CaptureBuffer) : (s.withCaptureBuffer x).buffer = s.buffer := rfl
@[simp] theorem State.withCaptureBuffer_headWaited (x : Option CaptureBuffer) : (s.withCaptureBuffer x).headWaited = s.headWaited := rfl
@[simp] theorem State.withCaptureBuffer_pendingCapture (x : Option CaptureBuffer) : (s.withCaptureBuffer x).pendingCapture = s.pendingCapture := rfl
@[simp] theorem State.withCaptureBuffer_captureBuffer (x : Option CaptureBuffer) : (s.withCaptureBuffer x).captureBuffer = x := rfl
@[simp] theorem State.withCaptureBuffer_fault (x : Option CaptureBuffer) : (s.withCaptureBuffer x).fault = s.fault := rfl
@[simp] theorem State.withCaptureBuffer_posture (x : Option CaptureBuffer) : (s.withCaptureBuffer x).posture = s.posture := rfl
@[simp] theorem State.withCaptureBuffer_free (x : Option CaptureBuffer) : (s.withCaptureBuffer x).free = s.free := rfl
@[simp] theorem State.withCaptureBuffer_pending (x : Option CaptureBuffer) : (s.withCaptureBuffer x).pending = s.pending := rfl
@[simp] theorem State.withCaptureBuffer_surface (x : Option CaptureBuffer) (i : SurfaceId) : (s.withCaptureBuffer x).surface i = s.surface i := by
  cases i <;> rfl

@[simp] theorem State.withTransaction_started (x : Option Transaction) : (s.withTransaction x).started = s.started := rfl
@[simp] theorem State.withTransaction_straps (x : Option Transaction) : (s.withTransaction x).straps = s.straps := rfl
@[simp] theorem State.withTransaction_cyclesPerTick (x : Option Transaction) : (s.withTransaction x).cyclesPerTick = s.cyclesPerTick := rfl
@[simp] theorem State.withTransaction_time (x : Option Transaction) : (s.withTransaction x).time = s.time := rfl
@[simp] theorem State.withTransaction_resetCause (x : Option Transaction) : (s.withTransaction x).resetCause = s.resetCause := rfl
@[simp] theorem State.withTransaction_pad (x : Option Transaction) : (s.withTransaction x).pad = s.pad := rfl
@[simp] theorem State.withTransaction_panel (x : Option Transaction) : (s.withTransaction x).panel = s.panel := rfl
@[simp] theorem State.withTransaction_padRejection (x : Option Transaction) : (s.withTransaction x).padRejection = s.padRejection := rfl
@[simp] theorem State.withTransaction_padRejectionReady (x : Option Transaction) : (s.withTransaction x).padRejectionReady = s.padRejectionReady := rfl
@[simp] theorem State.withTransaction_panelRejection (x : Option Transaction) : (s.withTransaction x).panelRejection = s.panelRejection := rfl
@[simp] theorem State.withTransaction_panelRejectionReady (x : Option Transaction) : (s.withTransaction x).panelRejectionReady = s.panelRejectionReady := rfl
@[simp] theorem State.withTransaction_penBlock (x : Option Transaction) : (s.withTransaction x).penBlock = s.penBlock := rfl
@[simp] theorem State.withTransaction_penBlockReady (x : Option Transaction) : (s.withTransaction x).penBlockReady = s.penBlockReady := rfl
@[simp] theorem State.withTransaction_gestureTable (x : Option Transaction) : (s.withTransaction x).gestureTable = s.gestureTable := rfl
@[simp] theorem State.withTransaction_gestureReady (x : Option Transaction) : (s.withTransaction x).gestureReady = s.gestureReady := rfl
@[simp] theorem State.withTransaction_curve (x : Option Transaction) : (s.withTransaction x).curve = s.curve := rfl
@[simp] theorem State.withTransaction_slots (x : Option Transaction) : (s.withTransaction x).slots = s.slots := rfl
@[simp] theorem State.withTransaction_nextContact (x : Option Transaction) : (s.withTransaction x).nextContact = s.nextContact := rfl
@[simp] theorem State.withTransaction_switchReported (x : Option Transaction) : (s.withTransaction x).switchReported = s.switchReported := rfl
@[simp] theorem State.withTransaction_guard (x : Option Transaction) : (s.withTransaction x).guard = s.guard := rfl
@[simp] theorem State.withTransaction_linger (x : Option Transaction) : (s.withTransaction x).linger = s.linger := rfl
@[simp] theorem State.withTransaction_pen (x : Option Transaction) : (s.withTransaction x).pen = s.pen := rfl
@[simp] theorem State.withTransaction_penCorrected (x : Option Transaction) : (s.withTransaction x).penCorrected = s.penCorrected := rfl
@[simp] theorem State.withTransaction_penUncorrectable (x : Option Transaction) : (s.withTransaction x).penUncorrectable = s.penUncorrectable := rfl
@[simp] theorem State.withTransaction_gesture (x : Option Transaction) : (s.withTransaction x).gesture = s.gesture := rfl
@[simp] theorem State.withTransaction_queue (x : Option Transaction) : (s.withTransaction x).queue = s.queue := rfl
@[simp] theorem State.withTransaction_mergedCount (x : Option Transaction) : (s.withTransaction x).mergedCount = s.mergedCount := rfl
@[simp] theorem State.withTransaction_deferredCount (x : Option Transaction) : (s.withTransaction x).deferredCount = s.deferredCount := rfl
@[simp] theorem State.withTransaction_droppedCount (x : Option Transaction) : (s.withTransaction x).droppedCount = s.droppedCount := rfl
@[simp] theorem State.withTransaction_queueBlock (x : Option Transaction) : (s.withTransaction x).queueBlock = s.queueBlock := rfl
@[simp] theorem State.withTransaction_attn (x : Option Transaction) : (s.withTransaction x).attn = s.attn := rfl
@[simp] theorem State.withTransaction_packetError (x : Option Transaction) : (s.withTransaction x).packetError = s.packetError := rfl
@[simp] theorem State.withTransaction_requestRefused (x : Option Transaction) : (s.withTransaction x).requestRefused = s.requestRefused := rfl
@[simp] theorem State.withTransaction_packetCrcCount (x : Option Transaction) : (s.withTransaction x).packetCrcCount = s.packetCrcCount := rfl
@[simp] theorem State.withTransaction_refusedCount (x : Option Transaction) : (s.withTransaction x).refusedCount = s.refusedCount := rfl
@[simp] theorem State.withTransaction_transaction (x : Option Transaction) : (s.withTransaction x).transaction = x := rfl
@[simp] theorem State.withTransaction_buffer (x : Option Transaction) : (s.withTransaction x).buffer = s.buffer := rfl
@[simp] theorem State.withTransaction_headWaited (x : Option Transaction) : (s.withTransaction x).headWaited = s.headWaited := rfl
@[simp] theorem State.withTransaction_pendingCapture (x : Option Transaction) : (s.withTransaction x).pendingCapture = s.pendingCapture := rfl
@[simp] theorem State.withTransaction_captureBuffer (x : Option Transaction) : (s.withTransaction x).captureBuffer = s.captureBuffer := rfl
@[simp] theorem State.withTransaction_fault (x : Option Transaction) : (s.withTransaction x).fault = s.fault := rfl
@[simp] theorem State.withTransaction_posture (x : Option Transaction) : (s.withTransaction x).posture = s.posture := rfl
@[simp] theorem State.withTransaction_free (x : Option Transaction) : (s.withTransaction x).free = s.free := rfl
@[simp] theorem State.withTransaction_pending (x : Option Transaction) : (s.withTransaction x).pending = s.pending := rfl
@[simp] theorem State.withTransaction_surface (x : Option Transaction) (i : SurfaceId) : (s.withTransaction x).surface i = s.surface i := by
  cases i <;> rfl

@[simp] theorem State.withFreeRead_started : (s.withFreeRead).started = s.started := rfl
@[simp] theorem State.withFreeRead_straps : (s.withFreeRead).straps = s.straps := rfl
@[simp] theorem State.withFreeRead_cyclesPerTick : (s.withFreeRead).cyclesPerTick = s.cyclesPerTick := rfl
@[simp] theorem State.withFreeRead_time : (s.withFreeRead).time = s.time := rfl
@[simp] theorem State.withFreeRead_resetCause : (s.withFreeRead).resetCause = s.resetCause := rfl
@[simp] theorem State.withFreeRead_pad : (s.withFreeRead).pad = s.pad := rfl
@[simp] theorem State.withFreeRead_panel : (s.withFreeRead).panel = s.panel := rfl
@[simp] theorem State.withFreeRead_padRejection : (s.withFreeRead).padRejection = s.padRejection := rfl
@[simp] theorem State.withFreeRead_padRejectionReady : (s.withFreeRead).padRejectionReady = s.padRejectionReady := rfl
@[simp] theorem State.withFreeRead_panelRejection : (s.withFreeRead).panelRejection = s.panelRejection := rfl
@[simp] theorem State.withFreeRead_panelRejectionReady : (s.withFreeRead).panelRejectionReady = s.panelRejectionReady := rfl
@[simp] theorem State.withFreeRead_penBlock : (s.withFreeRead).penBlock = s.penBlock := rfl
@[simp] theorem State.withFreeRead_penBlockReady : (s.withFreeRead).penBlockReady = s.penBlockReady := rfl
@[simp] theorem State.withFreeRead_gestureTable : (s.withFreeRead).gestureTable = s.gestureTable := rfl
@[simp] theorem State.withFreeRead_gestureReady : (s.withFreeRead).gestureReady = s.gestureReady := rfl
@[simp] theorem State.withFreeRead_curve : (s.withFreeRead).curve = s.curve := rfl
@[simp] theorem State.withFreeRead_slots : (s.withFreeRead).slots = s.slots := rfl
@[simp] theorem State.withFreeRead_nextContact : (s.withFreeRead).nextContact = s.nextContact := rfl
@[simp] theorem State.withFreeRead_switchReported : (s.withFreeRead).switchReported = s.switchReported := rfl
@[simp] theorem State.withFreeRead_guard : (s.withFreeRead).guard = s.guard := rfl
@[simp] theorem State.withFreeRead_linger : (s.withFreeRead).linger = s.linger := rfl
@[simp] theorem State.withFreeRead_pen : (s.withFreeRead).pen = s.pen := rfl
@[simp] theorem State.withFreeRead_penCorrected : (s.withFreeRead).penCorrected = s.penCorrected := rfl
@[simp] theorem State.withFreeRead_penUncorrectable : (s.withFreeRead).penUncorrectable = s.penUncorrectable := rfl
@[simp] theorem State.withFreeRead_gesture : (s.withFreeRead).gesture = s.gesture := rfl
@[simp] theorem State.withFreeRead_queue : (s.withFreeRead).queue = s.queue := rfl
@[simp] theorem State.withFreeRead_mergedCount : (s.withFreeRead).mergedCount = s.mergedCount := rfl
@[simp] theorem State.withFreeRead_deferredCount : (s.withFreeRead).deferredCount = s.deferredCount := rfl
@[simp] theorem State.withFreeRead_droppedCount : (s.withFreeRead).droppedCount = s.droppedCount := rfl
@[simp] theorem State.withFreeRead_queueBlock : (s.withFreeRead).queueBlock = s.queueBlock := rfl
@[simp] theorem State.withFreeRead_attn : (s.withFreeRead).attn = s.attn := rfl
@[simp] theorem State.withFreeRead_packetError : (s.withFreeRead).packetError = s.packetError := rfl
@[simp] theorem State.withFreeRead_requestRefused : (s.withFreeRead).requestRefused = s.requestRefused := rfl
@[simp] theorem State.withFreeRead_packetCrcCount : (s.withFreeRead).packetCrcCount = s.packetCrcCount := rfl
@[simp] theorem State.withFreeRead_refusedCount : (s.withFreeRead).refusedCount = s.refusedCount := rfl
@[simp] theorem State.withFreeRead_transaction : (s.withFreeRead).transaction = s.transaction := rfl
@[simp] theorem State.withFreeRead_buffer : (s.withFreeRead).buffer = s.buffer := rfl
@[simp] theorem State.withFreeRead_headWaited : (s.withFreeRead).headWaited = s.headWaited := rfl
@[simp] theorem State.withFreeRead_pendingCapture : (s.withFreeRead).pendingCapture = s.pendingCapture := rfl
@[simp] theorem State.withFreeRead_captureBuffer : (s.withFreeRead).captureBuffer = s.captureBuffer := rfl
@[simp] theorem State.withFreeRead_fault : (s.withFreeRead).fault = s.fault := rfl
@[simp] theorem State.withFreeRead_posture : (s.withFreeRead).posture = s.posture := rfl
@[simp] theorem State.withFreeRead_free : (s.withFreeRead).free = s.free + 1 := rfl
@[simp] theorem State.withFreeRead_pending : (s.withFreeRead).pending = s.pending := rfl
@[simp] theorem State.withFreeRead_surface (i : SurfaceId) : (s.withFreeRead).surface i = s.surface i := by
  cases i <;> rfl

@[simp] theorem State.withPending_started (x : List Instr) : (s.withPending x).started = s.started := rfl
@[simp] theorem State.withPending_straps (x : List Instr) : (s.withPending x).straps = s.straps := rfl
@[simp] theorem State.withPending_cyclesPerTick (x : List Instr) : (s.withPending x).cyclesPerTick = s.cyclesPerTick := rfl
@[simp] theorem State.withPending_time (x : List Instr) : (s.withPending x).time = s.time := rfl
@[simp] theorem State.withPending_resetCause (x : List Instr) : (s.withPending x).resetCause = s.resetCause := rfl
@[simp] theorem State.withPending_pad (x : List Instr) : (s.withPending x).pad = s.pad := rfl
@[simp] theorem State.withPending_panel (x : List Instr) : (s.withPending x).panel = s.panel := rfl
@[simp] theorem State.withPending_padRejection (x : List Instr) : (s.withPending x).padRejection = s.padRejection := rfl
@[simp] theorem State.withPending_padRejectionReady (x : List Instr) : (s.withPending x).padRejectionReady = s.padRejectionReady := rfl
@[simp] theorem State.withPending_panelRejection (x : List Instr) : (s.withPending x).panelRejection = s.panelRejection := rfl
@[simp] theorem State.withPending_panelRejectionReady (x : List Instr) : (s.withPending x).panelRejectionReady = s.panelRejectionReady := rfl
@[simp] theorem State.withPending_penBlock (x : List Instr) : (s.withPending x).penBlock = s.penBlock := rfl
@[simp] theorem State.withPending_penBlockReady (x : List Instr) : (s.withPending x).penBlockReady = s.penBlockReady := rfl
@[simp] theorem State.withPending_gestureTable (x : List Instr) : (s.withPending x).gestureTable = s.gestureTable := rfl
@[simp] theorem State.withPending_gestureReady (x : List Instr) : (s.withPending x).gestureReady = s.gestureReady := rfl
@[simp] theorem State.withPending_curve (x : List Instr) : (s.withPending x).curve = s.curve := rfl
@[simp] theorem State.withPending_slots (x : List Instr) : (s.withPending x).slots = s.slots := rfl
@[simp] theorem State.withPending_nextContact (x : List Instr) : (s.withPending x).nextContact = s.nextContact := rfl
@[simp] theorem State.withPending_switchReported (x : List Instr) : (s.withPending x).switchReported = s.switchReported := rfl
@[simp] theorem State.withPending_guard (x : List Instr) : (s.withPending x).guard = s.guard := rfl
@[simp] theorem State.withPending_linger (x : List Instr) : (s.withPending x).linger = s.linger := rfl
@[simp] theorem State.withPending_pen (x : List Instr) : (s.withPending x).pen = s.pen := rfl
@[simp] theorem State.withPending_penCorrected (x : List Instr) : (s.withPending x).penCorrected = s.penCorrected := rfl
@[simp] theorem State.withPending_penUncorrectable (x : List Instr) : (s.withPending x).penUncorrectable = s.penUncorrectable := rfl
@[simp] theorem State.withPending_gesture (x : List Instr) : (s.withPending x).gesture = s.gesture := rfl
@[simp] theorem State.withPending_queue (x : List Instr) : (s.withPending x).queue = s.queue := rfl
@[simp] theorem State.withPending_mergedCount (x : List Instr) : (s.withPending x).mergedCount = s.mergedCount := rfl
@[simp] theorem State.withPending_deferredCount (x : List Instr) : (s.withPending x).deferredCount = s.deferredCount := rfl
@[simp] theorem State.withPending_droppedCount (x : List Instr) : (s.withPending x).droppedCount = s.droppedCount := rfl
@[simp] theorem State.withPending_queueBlock (x : List Instr) : (s.withPending x).queueBlock = s.queueBlock := rfl
@[simp] theorem State.withPending_attn (x : List Instr) : (s.withPending x).attn = s.attn := rfl
@[simp] theorem State.withPending_packetError (x : List Instr) : (s.withPending x).packetError = s.packetError := rfl
@[simp] theorem State.withPending_requestRefused (x : List Instr) : (s.withPending x).requestRefused = s.requestRefused := rfl
@[simp] theorem State.withPending_packetCrcCount (x : List Instr) : (s.withPending x).packetCrcCount = s.packetCrcCount := rfl
@[simp] theorem State.withPending_refusedCount (x : List Instr) : (s.withPending x).refusedCount = s.refusedCount := rfl
@[simp] theorem State.withPending_transaction (x : List Instr) : (s.withPending x).transaction = s.transaction := rfl
@[simp] theorem State.withPending_buffer (x : List Instr) : (s.withPending x).buffer = s.buffer := rfl
@[simp] theorem State.withPending_headWaited (x : List Instr) : (s.withPending x).headWaited = s.headWaited := rfl
@[simp] theorem State.withPending_pendingCapture (x : List Instr) : (s.withPending x).pendingCapture = s.pendingCapture := rfl
@[simp] theorem State.withPending_captureBuffer (x : List Instr) : (s.withPending x).captureBuffer = s.captureBuffer := rfl
@[simp] theorem State.withPending_fault (x : List Instr) : (s.withPending x).fault = s.fault := rfl
@[simp] theorem State.withPending_posture (x : List Instr) : (s.withPending x).posture = s.posture := rfl
@[simp] theorem State.withPending_free (x : List Instr) : (s.withPending x).free = s.free := rfl
@[simp] theorem State.withPending_pending (x : List Instr) : (s.withPending x).pending = x := rfl
@[simp] theorem State.withPending_surface (x : List Instr) (i : SurfaceId) : (s.withPending x).surface i = s.surface i := by
  cases i <;> rfl

@[simp] theorem State.refreshAttn_started : (s.refreshAttn).started = s.started := rfl
@[simp] theorem State.refreshAttn_straps : (s.refreshAttn).straps = s.straps := rfl
@[simp] theorem State.refreshAttn_cyclesPerTick : (s.refreshAttn).cyclesPerTick = s.cyclesPerTick := rfl
@[simp] theorem State.refreshAttn_time : (s.refreshAttn).time = s.time := rfl
@[simp] theorem State.refreshAttn_resetCause : (s.refreshAttn).resetCause = s.resetCause := rfl
@[simp] theorem State.refreshAttn_pad : (s.refreshAttn).pad = s.pad := rfl
@[simp] theorem State.refreshAttn_panel : (s.refreshAttn).panel = s.panel := rfl
@[simp] theorem State.refreshAttn_padRejection : (s.refreshAttn).padRejection = s.padRejection := rfl
@[simp] theorem State.refreshAttn_padRejectionReady : (s.refreshAttn).padRejectionReady = s.padRejectionReady := rfl
@[simp] theorem State.refreshAttn_panelRejection : (s.refreshAttn).panelRejection = s.panelRejection := rfl
@[simp] theorem State.refreshAttn_panelRejectionReady : (s.refreshAttn).panelRejectionReady = s.panelRejectionReady := rfl
@[simp] theorem State.refreshAttn_penBlock : (s.refreshAttn).penBlock = s.penBlock := rfl
@[simp] theorem State.refreshAttn_penBlockReady : (s.refreshAttn).penBlockReady = s.penBlockReady := rfl
@[simp] theorem State.refreshAttn_gestureTable : (s.refreshAttn).gestureTable = s.gestureTable := rfl
@[simp] theorem State.refreshAttn_gestureReady : (s.refreshAttn).gestureReady = s.gestureReady := rfl
@[simp] theorem State.refreshAttn_curve : (s.refreshAttn).curve = s.curve := rfl
@[simp] theorem State.refreshAttn_slots : (s.refreshAttn).slots = s.slots := rfl
@[simp] theorem State.refreshAttn_nextContact : (s.refreshAttn).nextContact = s.nextContact := rfl
@[simp] theorem State.refreshAttn_switchReported : (s.refreshAttn).switchReported = s.switchReported := rfl
@[simp] theorem State.refreshAttn_guard : (s.refreshAttn).guard = s.guard := rfl
@[simp] theorem State.refreshAttn_linger : (s.refreshAttn).linger = s.linger := rfl
@[simp] theorem State.refreshAttn_pen : (s.refreshAttn).pen = s.pen := rfl
@[simp] theorem State.refreshAttn_penCorrected : (s.refreshAttn).penCorrected = s.penCorrected := rfl
@[simp] theorem State.refreshAttn_penUncorrectable : (s.refreshAttn).penUncorrectable = s.penUncorrectable := rfl
@[simp] theorem State.refreshAttn_gesture : (s.refreshAttn).gesture = s.gesture := rfl
@[simp] theorem State.refreshAttn_queue : (s.refreshAttn).queue = s.queue := rfl
@[simp] theorem State.refreshAttn_mergedCount : (s.refreshAttn).mergedCount = s.mergedCount := rfl
@[simp] theorem State.refreshAttn_deferredCount : (s.refreshAttn).deferredCount = s.deferredCount := rfl
@[simp] theorem State.refreshAttn_droppedCount : (s.refreshAttn).droppedCount = s.droppedCount := rfl
@[simp] theorem State.refreshAttn_queueBlock : (s.refreshAttn).queueBlock = s.queueBlock := rfl
@[simp] theorem State.refreshAttn_attn : (s.refreshAttn).attn = s.attnDue := rfl
@[simp] theorem State.refreshAttn_packetError : (s.refreshAttn).packetError = s.packetError := rfl
@[simp] theorem State.refreshAttn_requestRefused : (s.refreshAttn).requestRefused = s.requestRefused := rfl
@[simp] theorem State.refreshAttn_packetCrcCount : (s.refreshAttn).packetCrcCount = s.packetCrcCount := rfl
@[simp] theorem State.refreshAttn_refusedCount : (s.refreshAttn).refusedCount = s.refusedCount := rfl
@[simp] theorem State.refreshAttn_transaction : (s.refreshAttn).transaction = s.transaction := rfl
@[simp] theorem State.refreshAttn_buffer : (s.refreshAttn).buffer = s.buffer := rfl
@[simp] theorem State.refreshAttn_headWaited : (s.refreshAttn).headWaited = s.headWaited := rfl
@[simp] theorem State.refreshAttn_pendingCapture : (s.refreshAttn).pendingCapture = s.pendingCapture := rfl
@[simp] theorem State.refreshAttn_captureBuffer : (s.refreshAttn).captureBuffer = s.captureBuffer := rfl
@[simp] theorem State.refreshAttn_fault : (s.refreshAttn).fault = s.fault := rfl
@[simp] theorem State.refreshAttn_posture : (s.refreshAttn).posture = s.posture := rfl
@[simp] theorem State.refreshAttn_free : (s.refreshAttn).free = s.free := rfl
@[simp] theorem State.refreshAttn_pending : (s.refreshAttn).pending = s.pending := rfl
@[simp] theorem State.refreshAttn_surface (i : SurfaceId) : (s.refreshAttn).surface i = s.surface i := by
  cases i <;> rfl

@[simp] theorem State.withQueue_started (x : List Record) : (s.withQueue x).started = s.started := rfl
@[simp] theorem State.withQueue_straps (x : List Record) : (s.withQueue x).straps = s.straps := rfl
@[simp] theorem State.withQueue_cyclesPerTick (x : List Record) : (s.withQueue x).cyclesPerTick = s.cyclesPerTick := rfl
@[simp] theorem State.withQueue_time (x : List Record) : (s.withQueue x).time = s.time := rfl
@[simp] theorem State.withQueue_resetCause (x : List Record) : (s.withQueue x).resetCause = s.resetCause := rfl
@[simp] theorem State.withQueue_pad (x : List Record) : (s.withQueue x).pad = s.pad := rfl
@[simp] theorem State.withQueue_panel (x : List Record) : (s.withQueue x).panel = s.panel := rfl
@[simp] theorem State.withQueue_padRejection (x : List Record) : (s.withQueue x).padRejection = s.padRejection := rfl
@[simp] theorem State.withQueue_padRejectionReady (x : List Record) : (s.withQueue x).padRejectionReady = s.padRejectionReady := rfl
@[simp] theorem State.withQueue_panelRejection (x : List Record) : (s.withQueue x).panelRejection = s.panelRejection := rfl
@[simp] theorem State.withQueue_panelRejectionReady (x : List Record) : (s.withQueue x).panelRejectionReady = s.panelRejectionReady := rfl
@[simp] theorem State.withQueue_penBlock (x : List Record) : (s.withQueue x).penBlock = s.penBlock := rfl
@[simp] theorem State.withQueue_penBlockReady (x : List Record) : (s.withQueue x).penBlockReady = s.penBlockReady := rfl
@[simp] theorem State.withQueue_gestureTable (x : List Record) : (s.withQueue x).gestureTable = s.gestureTable := rfl
@[simp] theorem State.withQueue_gestureReady (x : List Record) : (s.withQueue x).gestureReady = s.gestureReady := rfl
@[simp] theorem State.withQueue_curve (x : List Record) : (s.withQueue x).curve = s.curve := rfl
@[simp] theorem State.withQueue_slots (x : List Record) : (s.withQueue x).slots = s.slots := rfl
@[simp] theorem State.withQueue_nextContact (x : List Record) : (s.withQueue x).nextContact = s.nextContact := rfl
@[simp] theorem State.withQueue_switchReported (x : List Record) : (s.withQueue x).switchReported = s.switchReported := rfl
@[simp] theorem State.withQueue_guard (x : List Record) : (s.withQueue x).guard = s.guard := rfl
@[simp] theorem State.withQueue_linger (x : List Record) : (s.withQueue x).linger = s.linger := rfl
@[simp] theorem State.withQueue_pen (x : List Record) : (s.withQueue x).pen = s.pen := rfl
@[simp] theorem State.withQueue_penCorrected (x : List Record) : (s.withQueue x).penCorrected = s.penCorrected := rfl
@[simp] theorem State.withQueue_penUncorrectable (x : List Record) : (s.withQueue x).penUncorrectable = s.penUncorrectable := rfl
@[simp] theorem State.withQueue_gesture (x : List Record) : (s.withQueue x).gesture = s.gesture := rfl
@[simp] theorem State.withQueue_queue (x : List Record) : (s.withQueue x).queue = x := rfl
@[simp] theorem State.withQueue_mergedCount (x : List Record) : (s.withQueue x).mergedCount = s.mergedCount := rfl
@[simp] theorem State.withQueue_deferredCount (x : List Record) : (s.withQueue x).deferredCount = s.deferredCount := rfl
@[simp] theorem State.withQueue_droppedCount (x : List Record) : (s.withQueue x).droppedCount = s.droppedCount := rfl
@[simp] theorem State.withQueue_queueBlock (x : List Record) : (s.withQueue x).queueBlock = s.queueBlock := rfl
@[simp] theorem State.withQueue_packetError (x : List Record) : (s.withQueue x).packetError = s.packetError := rfl
@[simp] theorem State.withQueue_requestRefused (x : List Record) : (s.withQueue x).requestRefused = s.requestRefused := rfl
@[simp] theorem State.withQueue_packetCrcCount (x : List Record) : (s.withQueue x).packetCrcCount = s.packetCrcCount := rfl
@[simp] theorem State.withQueue_refusedCount (x : List Record) : (s.withQueue x).refusedCount = s.refusedCount := rfl
@[simp] theorem State.withQueue_transaction (x : List Record) : (s.withQueue x).transaction = s.transaction := rfl
@[simp] theorem State.withQueue_buffer (x : List Record) : (s.withQueue x).buffer = s.buffer := rfl
@[simp] theorem State.withQueue_headWaited (x : List Record) : (s.withQueue x).headWaited = s.headWaited := rfl
@[simp] theorem State.withQueue_pendingCapture (x : List Record) : (s.withQueue x).pendingCapture = s.pendingCapture := rfl
@[simp] theorem State.withQueue_captureBuffer (x : List Record) : (s.withQueue x).captureBuffer = s.captureBuffer := rfl
@[simp] theorem State.withQueue_fault (x : List Record) : (s.withQueue x).fault = s.fault := rfl
@[simp] theorem State.withQueue_posture (x : List Record) : (s.withQueue x).posture = s.posture := rfl
@[simp] theorem State.withQueue_free (x : List Record) : (s.withQueue x).free = s.free := rfl
@[simp] theorem State.withQueue_pending (x : List Record) : (s.withQueue x).pending = s.pending := rfl
@[simp] theorem State.withQueue_surface (x : List Record) (i : SurfaceId) : (s.withQueue x).surface i = s.surface i := by
  cases i <;> rfl

@[simp] theorem State.withSticky_started (p r : Bool) : (s.withSticky p r).started = s.started := rfl
@[simp] theorem State.withSticky_straps (p r : Bool) : (s.withSticky p r).straps = s.straps := rfl
@[simp] theorem State.withSticky_cyclesPerTick (p r : Bool) : (s.withSticky p r).cyclesPerTick = s.cyclesPerTick := rfl
@[simp] theorem State.withSticky_time (p r : Bool) : (s.withSticky p r).time = s.time := rfl
@[simp] theorem State.withSticky_resetCause (p r : Bool) : (s.withSticky p r).resetCause = s.resetCause := rfl
@[simp] theorem State.withSticky_pad (p r : Bool) : (s.withSticky p r).pad = s.pad := rfl
@[simp] theorem State.withSticky_panel (p r : Bool) : (s.withSticky p r).panel = s.panel := rfl
@[simp] theorem State.withSticky_padRejection (p r : Bool) : (s.withSticky p r).padRejection = s.padRejection := rfl
@[simp] theorem State.withSticky_padRejectionReady (p r : Bool) : (s.withSticky p r).padRejectionReady = s.padRejectionReady := rfl
@[simp] theorem State.withSticky_panelRejection (p r : Bool) : (s.withSticky p r).panelRejection = s.panelRejection := rfl
@[simp] theorem State.withSticky_panelRejectionReady (p r : Bool) : (s.withSticky p r).panelRejectionReady = s.panelRejectionReady := rfl
@[simp] theorem State.withSticky_penBlock (p r : Bool) : (s.withSticky p r).penBlock = s.penBlock := rfl
@[simp] theorem State.withSticky_penBlockReady (p r : Bool) : (s.withSticky p r).penBlockReady = s.penBlockReady := rfl
@[simp] theorem State.withSticky_gestureTable (p r : Bool) : (s.withSticky p r).gestureTable = s.gestureTable := rfl
@[simp] theorem State.withSticky_gestureReady (p r : Bool) : (s.withSticky p r).gestureReady = s.gestureReady := rfl
@[simp] theorem State.withSticky_curve (p r : Bool) : (s.withSticky p r).curve = s.curve := rfl
@[simp] theorem State.withSticky_slots (p r : Bool) : (s.withSticky p r).slots = s.slots := rfl
@[simp] theorem State.withSticky_nextContact (p r : Bool) : (s.withSticky p r).nextContact = s.nextContact := rfl
@[simp] theorem State.withSticky_switchReported (p r : Bool) : (s.withSticky p r).switchReported = s.switchReported := rfl
@[simp] theorem State.withSticky_guard (p r : Bool) : (s.withSticky p r).guard = s.guard := rfl
@[simp] theorem State.withSticky_linger (p r : Bool) : (s.withSticky p r).linger = s.linger := rfl
@[simp] theorem State.withSticky_pen (p r : Bool) : (s.withSticky p r).pen = s.pen := rfl
@[simp] theorem State.withSticky_penCorrected (p r : Bool) : (s.withSticky p r).penCorrected = s.penCorrected := rfl
@[simp] theorem State.withSticky_penUncorrectable (p r : Bool) : (s.withSticky p r).penUncorrectable = s.penUncorrectable := rfl
@[simp] theorem State.withSticky_gesture (p r : Bool) : (s.withSticky p r).gesture = s.gesture := rfl
@[simp] theorem State.withSticky_queue (p r : Bool) : (s.withSticky p r).queue = s.queue := rfl
@[simp] theorem State.withSticky_mergedCount (p r : Bool) : (s.withSticky p r).mergedCount = s.mergedCount := rfl
@[simp] theorem State.withSticky_deferredCount (p r : Bool) : (s.withSticky p r).deferredCount = s.deferredCount := rfl
@[simp] theorem State.withSticky_droppedCount (p r : Bool) : (s.withSticky p r).droppedCount = s.droppedCount := rfl
@[simp] theorem State.withSticky_queueBlock (p r : Bool) : (s.withSticky p r).queueBlock = s.queueBlock := rfl
@[simp] theorem State.withSticky_packetError (p r : Bool) : (s.withSticky p r).packetError = p := rfl
@[simp] theorem State.withSticky_requestRefused (p r : Bool) : (s.withSticky p r).requestRefused = r := rfl
@[simp] theorem State.withSticky_packetCrcCount (p r : Bool) : (s.withSticky p r).packetCrcCount = s.packetCrcCount := rfl
@[simp] theorem State.withSticky_refusedCount (p r : Bool) : (s.withSticky p r).refusedCount = s.refusedCount := rfl
@[simp] theorem State.withSticky_transaction (p r : Bool) : (s.withSticky p r).transaction = s.transaction := rfl
@[simp] theorem State.withSticky_buffer (p r : Bool) : (s.withSticky p r).buffer = s.buffer := rfl
@[simp] theorem State.withSticky_headWaited (p r : Bool) : (s.withSticky p r).headWaited = s.headWaited := rfl
@[simp] theorem State.withSticky_pendingCapture (p r : Bool) : (s.withSticky p r).pendingCapture = s.pendingCapture := rfl
@[simp] theorem State.withSticky_captureBuffer (p r : Bool) : (s.withSticky p r).captureBuffer = s.captureBuffer := rfl
@[simp] theorem State.withSticky_fault (p r : Bool) : (s.withSticky p r).fault = s.fault := rfl
@[simp] theorem State.withSticky_posture (p r : Bool) : (s.withSticky p r).posture = s.posture := rfl
@[simp] theorem State.withSticky_free (p r : Bool) : (s.withSticky p r).free = s.free := rfl
@[simp] theorem State.withSticky_pending (p r : Bool) : (s.withSticky p r).pending = s.pending := rfl
@[simp] theorem State.withSticky_surface (p r : Bool) (i : SurfaceId) : (s.withSticky p r).surface i = s.surface i := by
  cases i <;> rfl

@[simp] theorem State.append_started (q : Byte) (t : BitVec 16) (b : Body) : (s.append q t b).started = s.started := rfl
@[simp] theorem State.append_straps (q : Byte) (t : BitVec 16) (b : Body) : (s.append q t b).straps = s.straps := rfl
@[simp] theorem State.append_cyclesPerTick (q : Byte) (t : BitVec 16) (b : Body) : (s.append q t b).cyclesPerTick = s.cyclesPerTick := rfl
@[simp] theorem State.append_time (q : Byte) (t : BitVec 16) (b : Body) : (s.append q t b).time = s.time := rfl
@[simp] theorem State.append_resetCause (q : Byte) (t : BitVec 16) (b : Body) : (s.append q t b).resetCause = s.resetCause := rfl
@[simp] theorem State.append_pad (q : Byte) (t : BitVec 16) (b : Body) : (s.append q t b).pad = s.pad := rfl
@[simp] theorem State.append_panel (q : Byte) (t : BitVec 16) (b : Body) : (s.append q t b).panel = s.panel := rfl
@[simp] theorem State.append_padRejection (q : Byte) (t : BitVec 16) (b : Body) : (s.append q t b).padRejection = s.padRejection := rfl
@[simp] theorem State.append_padRejectionReady (q : Byte) (t : BitVec 16) (b : Body) : (s.append q t b).padRejectionReady = s.padRejectionReady := rfl
@[simp] theorem State.append_panelRejection (q : Byte) (t : BitVec 16) (b : Body) : (s.append q t b).panelRejection = s.panelRejection := rfl
@[simp] theorem State.append_panelRejectionReady (q : Byte) (t : BitVec 16) (b : Body) : (s.append q t b).panelRejectionReady = s.panelRejectionReady := rfl
@[simp] theorem State.append_penBlock (q : Byte) (t : BitVec 16) (b : Body) : (s.append q t b).penBlock = s.penBlock := rfl
@[simp] theorem State.append_penBlockReady (q : Byte) (t : BitVec 16) (b : Body) : (s.append q t b).penBlockReady = s.penBlockReady := rfl
@[simp] theorem State.append_gestureTable (q : Byte) (t : BitVec 16) (b : Body) : (s.append q t b).gestureTable = s.gestureTable := rfl
@[simp] theorem State.append_gestureReady (q : Byte) (t : BitVec 16) (b : Body) : (s.append q t b).gestureReady = s.gestureReady := rfl
@[simp] theorem State.append_curve (q : Byte) (t : BitVec 16) (b : Body) : (s.append q t b).curve = s.curve := rfl
@[simp] theorem State.append_slots (q : Byte) (t : BitVec 16) (b : Body) : (s.append q t b).slots = s.slots := rfl
@[simp] theorem State.append_nextContact (q : Byte) (t : BitVec 16) (b : Body) : (s.append q t b).nextContact = s.nextContact := rfl
@[simp] theorem State.append_switchReported (q : Byte) (t : BitVec 16) (b : Body) : (s.append q t b).switchReported = s.switchReported := rfl
@[simp] theorem State.append_guard (q : Byte) (t : BitVec 16) (b : Body) : (s.append q t b).guard = s.guard := rfl
@[simp] theorem State.append_linger (q : Byte) (t : BitVec 16) (b : Body) : (s.append q t b).linger = s.linger := rfl
@[simp] theorem State.append_pen (q : Byte) (t : BitVec 16) (b : Body) : (s.append q t b).pen = s.pen := rfl
@[simp] theorem State.append_penCorrected (q : Byte) (t : BitVec 16) (b : Body) : (s.append q t b).penCorrected = s.penCorrected := rfl
@[simp] theorem State.append_penUncorrectable (q : Byte) (t : BitVec 16) (b : Body) : (s.append q t b).penUncorrectable = s.penUncorrectable := rfl
@[simp] theorem State.append_gesture (q : Byte) (t : BitVec 16) (b : Body) : (s.append q t b).gesture = s.gesture := rfl
@[simp] theorem State.append_queue (q : Byte) (t : BitVec 16) (b : Body) : (s.append q t b).queue = s.queue ++ [{ sequence := q, timestamp := t, placed := s.time, body := b }] := rfl
@[simp] theorem State.append_mergedCount (q : Byte) (t : BitVec 16) (b : Body) : (s.append q t b).mergedCount = s.mergedCount := rfl
@[simp] theorem State.append_deferredCount (q : Byte) (t : BitVec 16) (b : Body) : (s.append q t b).deferredCount = s.deferredCount := rfl
@[simp] theorem State.append_droppedCount (q : Byte) (t : BitVec 16) (b : Body) : (s.append q t b).droppedCount = s.droppedCount := rfl
@[simp] theorem State.append_queueBlock (q : Byte) (t : BitVec 16) (b : Body) : (s.append q t b).queueBlock = s.queueBlock := rfl
@[simp] theorem State.append_packetError (q : Byte) (t : BitVec 16) (b : Body) : (s.append q t b).packetError = s.packetError := rfl
@[simp] theorem State.append_requestRefused (q : Byte) (t : BitVec 16) (b : Body) : (s.append q t b).requestRefused = s.requestRefused := rfl
@[simp] theorem State.append_packetCrcCount (q : Byte) (t : BitVec 16) (b : Body) : (s.append q t b).packetCrcCount = s.packetCrcCount := rfl
@[simp] theorem State.append_refusedCount (q : Byte) (t : BitVec 16) (b : Body) : (s.append q t b).refusedCount = s.refusedCount := rfl
@[simp] theorem State.append_transaction (q : Byte) (t : BitVec 16) (b : Body) : (s.append q t b).transaction = s.transaction := rfl
@[simp] theorem State.append_buffer (q : Byte) (t : BitVec 16) (b : Body) : (s.append q t b).buffer = s.buffer := rfl
@[simp] theorem State.append_headWaited (q : Byte) (t : BitVec 16) (b : Body) : (s.append q t b).headWaited = s.headWaited := rfl
@[simp] theorem State.append_pendingCapture (q : Byte) (t : BitVec 16) (b : Body) : (s.append q t b).pendingCapture = s.pendingCapture := rfl
@[simp] theorem State.append_captureBuffer (q : Byte) (t : BitVec 16) (b : Body) : (s.append q t b).captureBuffer = s.captureBuffer := rfl
@[simp] theorem State.append_fault (q : Byte) (t : BitVec 16) (b : Body) : (s.append q t b).fault = s.fault := rfl
@[simp] theorem State.append_posture (q : Byte) (t : BitVec 16) (b : Body) : (s.append q t b).posture = s.posture := rfl
@[simp] theorem State.append_free (q : Byte) (t : BitVec 16) (b : Body) : (s.append q t b).free = s.free := rfl
@[simp] theorem State.append_pending (q : Byte) (t : BitVec 16) (b : Body) : (s.append q t b).pending = s.pending := rfl
@[simp] theorem State.append_surface (q : Byte) (t : BitVec 16) (b : Body) (i : SurfaceId) : (s.append q t b).surface i = s.surface i := by
  cases i <;> rfl

@[simp] theorem State.respond_started (t c : Byte) (r : ResponseCode) (d : List Byte) : (s.respond t c r d).started = s.started := rfl
@[simp] theorem State.respond_straps (t c : Byte) (r : ResponseCode) (d : List Byte) : (s.respond t c r d).straps = s.straps := rfl
@[simp] theorem State.respond_cyclesPerTick (t c : Byte) (r : ResponseCode) (d : List Byte) : (s.respond t c r d).cyclesPerTick = s.cyclesPerTick := rfl
@[simp] theorem State.respond_time (t c : Byte) (r : ResponseCode) (d : List Byte) : (s.respond t c r d).time = s.time := rfl
@[simp] theorem State.respond_resetCause (t c : Byte) (r : ResponseCode) (d : List Byte) : (s.respond t c r d).resetCause = s.resetCause := rfl
@[simp] theorem State.respond_pad (t c : Byte) (r : ResponseCode) (d : List Byte) : (s.respond t c r d).pad = s.pad := rfl
@[simp] theorem State.respond_panel (t c : Byte) (r : ResponseCode) (d : List Byte) : (s.respond t c r d).panel = s.panel := rfl
@[simp] theorem State.respond_padRejection (t c : Byte) (r : ResponseCode) (d : List Byte) : (s.respond t c r d).padRejection = s.padRejection := rfl
@[simp] theorem State.respond_padRejectionReady (t c : Byte) (r : ResponseCode) (d : List Byte) : (s.respond t c r d).padRejectionReady = s.padRejectionReady := rfl
@[simp] theorem State.respond_panelRejection (t c : Byte) (r : ResponseCode) (d : List Byte) : (s.respond t c r d).panelRejection = s.panelRejection := rfl
@[simp] theorem State.respond_panelRejectionReady (t c : Byte) (r : ResponseCode) (d : List Byte) : (s.respond t c r d).panelRejectionReady = s.panelRejectionReady := rfl
@[simp] theorem State.respond_penBlock (t c : Byte) (r : ResponseCode) (d : List Byte) : (s.respond t c r d).penBlock = s.penBlock := rfl
@[simp] theorem State.respond_penBlockReady (t c : Byte) (r : ResponseCode) (d : List Byte) : (s.respond t c r d).penBlockReady = s.penBlockReady := rfl
@[simp] theorem State.respond_gestureTable (t c : Byte) (r : ResponseCode) (d : List Byte) : (s.respond t c r d).gestureTable = s.gestureTable := rfl
@[simp] theorem State.respond_gestureReady (t c : Byte) (r : ResponseCode) (d : List Byte) : (s.respond t c r d).gestureReady = s.gestureReady := rfl
@[simp] theorem State.respond_curve (t c : Byte) (r : ResponseCode) (d : List Byte) : (s.respond t c r d).curve = s.curve := rfl
@[simp] theorem State.respond_slots (t c : Byte) (r : ResponseCode) (d : List Byte) : (s.respond t c r d).slots = s.slots := rfl
@[simp] theorem State.respond_nextContact (t c : Byte) (r : ResponseCode) (d : List Byte) : (s.respond t c r d).nextContact = s.nextContact := rfl
@[simp] theorem State.respond_switchReported (t c : Byte) (r : ResponseCode) (d : List Byte) : (s.respond t c r d).switchReported = s.switchReported := rfl
@[simp] theorem State.respond_guard (t c : Byte) (r : ResponseCode) (d : List Byte) : (s.respond t c r d).guard = s.guard := rfl
@[simp] theorem State.respond_linger (t c : Byte) (r : ResponseCode) (d : List Byte) : (s.respond t c r d).linger = s.linger := rfl
@[simp] theorem State.respond_pen (t c : Byte) (r : ResponseCode) (d : List Byte) : (s.respond t c r d).pen = s.pen := rfl
@[simp] theorem State.respond_penCorrected (t c : Byte) (r : ResponseCode) (d : List Byte) : (s.respond t c r d).penCorrected = s.penCorrected := rfl
@[simp] theorem State.respond_penUncorrectable (t c : Byte) (r : ResponseCode) (d : List Byte) : (s.respond t c r d).penUncorrectable = s.penUncorrectable := rfl
@[simp] theorem State.respond_gesture (t c : Byte) (r : ResponseCode) (d : List Byte) : (s.respond t c r d).gesture = s.gesture := rfl
@[simp] theorem State.respond_queue (t c : Byte) (r : ResponseCode) (d : List Byte) : (s.respond t c r d).queue = s.queue ++ [{ sequence := t, timestamp := low16 s.time, placed := s.time, body := .response c r d }] := rfl
@[simp] theorem State.respond_mergedCount (t c : Byte) (r : ResponseCode) (d : List Byte) : (s.respond t c r d).mergedCount = s.mergedCount := rfl
@[simp] theorem State.respond_deferredCount (t c : Byte) (r : ResponseCode) (d : List Byte) : (s.respond t c r d).deferredCount = s.deferredCount := rfl
@[simp] theorem State.respond_droppedCount (t c : Byte) (r : ResponseCode) (d : List Byte) : (s.respond t c r d).droppedCount = s.droppedCount := rfl
@[simp] theorem State.respond_queueBlock (t c : Byte) (r : ResponseCode) (d : List Byte) : (s.respond t c r d).queueBlock = s.queueBlock := rfl
@[simp] theorem State.respond_packetError (t c : Byte) (r : ResponseCode) (d : List Byte) : (s.respond t c r d).packetError = s.packetError := rfl
@[simp] theorem State.respond_requestRefused (t c : Byte) (r : ResponseCode) (d : List Byte) : (s.respond t c r d).requestRefused = s.requestRefused := rfl
@[simp] theorem State.respond_packetCrcCount (t c : Byte) (r : ResponseCode) (d : List Byte) : (s.respond t c r d).packetCrcCount = s.packetCrcCount := rfl
@[simp] theorem State.respond_refusedCount (t c : Byte) (r : ResponseCode) (d : List Byte) : (s.respond t c r d).refusedCount = s.refusedCount := rfl
@[simp] theorem State.respond_transaction (t c : Byte) (r : ResponseCode) (d : List Byte) : (s.respond t c r d).transaction = s.transaction := rfl
@[simp] theorem State.respond_buffer (t c : Byte) (r : ResponseCode) (d : List Byte) : (s.respond t c r d).buffer = s.buffer := rfl
@[simp] theorem State.respond_headWaited (t c : Byte) (r : ResponseCode) (d : List Byte) : (s.respond t c r d).headWaited = s.headWaited := rfl
@[simp] theorem State.respond_pendingCapture (t c : Byte) (r : ResponseCode) (d : List Byte) : (s.respond t c r d).pendingCapture = s.pendingCapture := rfl
@[simp] theorem State.respond_captureBuffer (t c : Byte) (r : ResponseCode) (d : List Byte) : (s.respond t c r d).captureBuffer = s.captureBuffer := rfl
@[simp] theorem State.respond_fault (t c : Byte) (r : ResponseCode) (d : List Byte) : (s.respond t c r d).fault = s.fault := rfl
@[simp] theorem State.respond_posture (t c : Byte) (r : ResponseCode) (d : List Byte) : (s.respond t c r d).posture = s.posture := rfl
@[simp] theorem State.respond_free (t c : Byte) (r : ResponseCode) (d : List Byte) : (s.respond t c r d).free = s.free := rfl
@[simp] theorem State.respond_pending (t c : Byte) (r : ResponseCode) (d : List Byte) : (s.respond t c r d).pending = s.pending := rfl
@[simp] theorem State.respond_surface (t c : Byte) (r : ResponseCode) (d : List Byte) (i : SurfaceId) : (s.respond t c r d).surface i = s.surface i := by
  cases i <;> rfl

@[simp] theorem State.withSurface_started (i : SurfaceId) (v : Surface) : (s.withSurface i v).started = s.started := by cases i <;> rfl
@[simp] theorem State.withSurface_straps (i : SurfaceId) (v : Surface) : (s.withSurface i v).straps = s.straps := by cases i <;> rfl
@[simp] theorem State.withSurface_cyclesPerTick (i : SurfaceId) (v : Surface) : (s.withSurface i v).cyclesPerTick = s.cyclesPerTick := by cases i <;> rfl
@[simp] theorem State.withSurface_time (i : SurfaceId) (v : Surface) : (s.withSurface i v).time = s.time := by cases i <;> rfl
@[simp] theorem State.withSurface_resetCause (i : SurfaceId) (v : Surface) : (s.withSurface i v).resetCause = s.resetCause := by cases i <;> rfl
@[simp] theorem State.withSurface_padRejection (i : SurfaceId) (v : Surface) : (s.withSurface i v).padRejection = s.padRejection := by cases i <;> rfl
@[simp] theorem State.withSurface_padRejectionReady (i : SurfaceId) (v : Surface) : (s.withSurface i v).padRejectionReady = s.padRejectionReady := by cases i <;> rfl
@[simp] theorem State.withSurface_panelRejection (i : SurfaceId) (v : Surface) : (s.withSurface i v).panelRejection = s.panelRejection := by cases i <;> rfl
@[simp] theorem State.withSurface_panelRejectionReady (i : SurfaceId) (v : Surface) : (s.withSurface i v).panelRejectionReady = s.panelRejectionReady := by cases i <;> rfl
@[simp] theorem State.withSurface_penBlock (i : SurfaceId) (v : Surface) : (s.withSurface i v).penBlock = s.penBlock := by cases i <;> rfl
@[simp] theorem State.withSurface_penBlockReady (i : SurfaceId) (v : Surface) : (s.withSurface i v).penBlockReady = s.penBlockReady := by cases i <;> rfl
@[simp] theorem State.withSurface_gestureTable (i : SurfaceId) (v : Surface) : (s.withSurface i v).gestureTable = s.gestureTable := by cases i <;> rfl
@[simp] theorem State.withSurface_gestureReady (i : SurfaceId) (v : Surface) : (s.withSurface i v).gestureReady = s.gestureReady := by cases i <;> rfl
@[simp] theorem State.withSurface_curve (i : SurfaceId) (v : Surface) : (s.withSurface i v).curve = s.curve := by cases i <;> rfl
@[simp] theorem State.withSurface_slots (i : SurfaceId) (v : Surface) : (s.withSurface i v).slots = s.slots := by cases i <;> rfl
@[simp] theorem State.withSurface_nextContact (i : SurfaceId) (v : Surface) : (s.withSurface i v).nextContact = s.nextContact := by cases i <;> rfl
@[simp] theorem State.withSurface_switchReported (i : SurfaceId) (v : Surface) : (s.withSurface i v).switchReported = s.switchReported := by cases i <;> rfl
@[simp] theorem State.withSurface_guard (i : SurfaceId) (v : Surface) : (s.withSurface i v).guard = s.guard := by cases i <;> rfl
@[simp] theorem State.withSurface_linger (i : SurfaceId) (v : Surface) : (s.withSurface i v).linger = s.linger := by cases i <;> rfl
@[simp] theorem State.withSurface_pen (i : SurfaceId) (v : Surface) : (s.withSurface i v).pen = s.pen := by cases i <;> rfl
@[simp] theorem State.withSurface_penCorrected (i : SurfaceId) (v : Surface) : (s.withSurface i v).penCorrected = s.penCorrected := by cases i <;> rfl
@[simp] theorem State.withSurface_penUncorrectable (i : SurfaceId) (v : Surface) : (s.withSurface i v).penUncorrectable = s.penUncorrectable := by cases i <;> rfl
@[simp] theorem State.withSurface_gesture (i : SurfaceId) (v : Surface) : (s.withSurface i v).gesture = s.gesture := by cases i <;> rfl
@[simp] theorem State.withSurface_queue (i : SurfaceId) (v : Surface) : (s.withSurface i v).queue = s.queue := by cases i <;> rfl
@[simp] theorem State.withSurface_mergedCount (i : SurfaceId) (v : Surface) : (s.withSurface i v).mergedCount = s.mergedCount := by cases i <;> rfl
@[simp] theorem State.withSurface_deferredCount (i : SurfaceId) (v : Surface) : (s.withSurface i v).deferredCount = s.deferredCount := by cases i <;> rfl
@[simp] theorem State.withSurface_droppedCount (i : SurfaceId) (v : Surface) : (s.withSurface i v).droppedCount = s.droppedCount := by cases i <;> rfl
@[simp] theorem State.withSurface_queueBlock (i : SurfaceId) (v : Surface) : (s.withSurface i v).queueBlock = s.queueBlock := by cases i <;> rfl
@[simp] theorem State.withSurface_attn (i : SurfaceId) (v : Surface) : (s.withSurface i v).attn = s.attn := by cases i <;> rfl
@[simp] theorem State.withSurface_packetError (i : SurfaceId) (v : Surface) : (s.withSurface i v).packetError = s.packetError := by cases i <;> rfl
@[simp] theorem State.withSurface_requestRefused (i : SurfaceId) (v : Surface) : (s.withSurface i v).requestRefused = s.requestRefused := by cases i <;> rfl
@[simp] theorem State.withSurface_packetCrcCount (i : SurfaceId) (v : Surface) : (s.withSurface i v).packetCrcCount = s.packetCrcCount := by cases i <;> rfl
@[simp] theorem State.withSurface_refusedCount (i : SurfaceId) (v : Surface) : (s.withSurface i v).refusedCount = s.refusedCount := by cases i <;> rfl
@[simp] theorem State.withSurface_transaction (i : SurfaceId) (v : Surface) : (s.withSurface i v).transaction = s.transaction := by cases i <;> rfl
@[simp] theorem State.withSurface_buffer (i : SurfaceId) (v : Surface) : (s.withSurface i v).buffer = s.buffer := by cases i <;> rfl
@[simp] theorem State.withSurface_headWaited (i : SurfaceId) (v : Surface) : (s.withSurface i v).headWaited = s.headWaited := by cases i <;> rfl
@[simp] theorem State.withSurface_pendingCapture (i : SurfaceId) (v : Surface) : (s.withSurface i v).pendingCapture = s.pendingCapture := by cases i <;> rfl
@[simp] theorem State.withSurface_captureBuffer (i : SurfaceId) (v : Surface) : (s.withSurface i v).captureBuffer = s.captureBuffer := by cases i <;> rfl
@[simp] theorem State.withSurface_fault (i : SurfaceId) (v : Surface) : (s.withSurface i v).fault = s.fault := by cases i <;> rfl
@[simp] theorem State.withSurface_posture (i : SurfaceId) (v : Surface) : (s.withSurface i v).posture = s.posture := by cases i <;> rfl
@[simp] theorem State.withSurface_free (i : SurfaceId) (v : Surface) : (s.withSurface i v).free = s.free := by cases i <;> rfl
@[simp] theorem State.withSurface_pending (i : SurfaceId) (v : Surface) : (s.withSurface i v).pending = s.pending := by cases i <;> rfl

@[simp] theorem State.withFramer_started (i : SurfaceId) (f : Framer) : (s.withFramer i f).started = s.started := by cases i <;> rfl
@[simp] theorem State.withFramer_straps (i : SurfaceId) (f : Framer) : (s.withFramer i f).straps = s.straps := by cases i <;> rfl
@[simp] theorem State.withFramer_cyclesPerTick (i : SurfaceId) (f : Framer) : (s.withFramer i f).cyclesPerTick = s.cyclesPerTick := by cases i <;> rfl
@[simp] theorem State.withFramer_time (i : SurfaceId) (f : Framer) : (s.withFramer i f).time = s.time := by cases i <;> rfl
@[simp] theorem State.withFramer_resetCause (i : SurfaceId) (f : Framer) : (s.withFramer i f).resetCause = s.resetCause := by cases i <;> rfl
@[simp] theorem State.withFramer_padRejection (i : SurfaceId) (f : Framer) : (s.withFramer i f).padRejection = s.padRejection := by cases i <;> rfl
@[simp] theorem State.withFramer_padRejectionReady (i : SurfaceId) (f : Framer) : (s.withFramer i f).padRejectionReady = s.padRejectionReady := by cases i <;> rfl
@[simp] theorem State.withFramer_panelRejection (i : SurfaceId) (f : Framer) : (s.withFramer i f).panelRejection = s.panelRejection := by cases i <;> rfl
@[simp] theorem State.withFramer_panelRejectionReady (i : SurfaceId) (f : Framer) : (s.withFramer i f).panelRejectionReady = s.panelRejectionReady := by cases i <;> rfl
@[simp] theorem State.withFramer_penBlock (i : SurfaceId) (f : Framer) : (s.withFramer i f).penBlock = s.penBlock := by cases i <;> rfl
@[simp] theorem State.withFramer_penBlockReady (i : SurfaceId) (f : Framer) : (s.withFramer i f).penBlockReady = s.penBlockReady := by cases i <;> rfl
@[simp] theorem State.withFramer_gestureTable (i : SurfaceId) (f : Framer) : (s.withFramer i f).gestureTable = s.gestureTable := by cases i <;> rfl
@[simp] theorem State.withFramer_gestureReady (i : SurfaceId) (f : Framer) : (s.withFramer i f).gestureReady = s.gestureReady := by cases i <;> rfl
@[simp] theorem State.withFramer_curve (i : SurfaceId) (f : Framer) : (s.withFramer i f).curve = s.curve := by cases i <;> rfl
@[simp] theorem State.withFramer_slots (i : SurfaceId) (f : Framer) : (s.withFramer i f).slots = s.slots := by cases i <;> rfl
@[simp] theorem State.withFramer_nextContact (i : SurfaceId) (f : Framer) : (s.withFramer i f).nextContact = s.nextContact := by cases i <;> rfl
@[simp] theorem State.withFramer_switchReported (i : SurfaceId) (f : Framer) : (s.withFramer i f).switchReported = s.switchReported := by cases i <;> rfl
@[simp] theorem State.withFramer_guard (i : SurfaceId) (f : Framer) : (s.withFramer i f).guard = s.guard := by cases i <;> rfl
@[simp] theorem State.withFramer_linger (i : SurfaceId) (f : Framer) : (s.withFramer i f).linger = s.linger := by cases i <;> rfl
@[simp] theorem State.withFramer_pen (i : SurfaceId) (f : Framer) : (s.withFramer i f).pen = s.pen := by cases i <;> rfl
@[simp] theorem State.withFramer_penCorrected (i : SurfaceId) (f : Framer) : (s.withFramer i f).penCorrected = s.penCorrected := by cases i <;> rfl
@[simp] theorem State.withFramer_penUncorrectable (i : SurfaceId) (f : Framer) : (s.withFramer i f).penUncorrectable = s.penUncorrectable := by cases i <;> rfl
@[simp] theorem State.withFramer_gesture (i : SurfaceId) (f : Framer) : (s.withFramer i f).gesture = s.gesture := by cases i <;> rfl
@[simp] theorem State.withFramer_queue (i : SurfaceId) (f : Framer) : (s.withFramer i f).queue = s.queue := by cases i <;> rfl
@[simp] theorem State.withFramer_mergedCount (i : SurfaceId) (f : Framer) : (s.withFramer i f).mergedCount = s.mergedCount := by cases i <;> rfl
@[simp] theorem State.withFramer_deferredCount (i : SurfaceId) (f : Framer) : (s.withFramer i f).deferredCount = s.deferredCount := by cases i <;> rfl
@[simp] theorem State.withFramer_droppedCount (i : SurfaceId) (f : Framer) : (s.withFramer i f).droppedCount = s.droppedCount := by cases i <;> rfl
@[simp] theorem State.withFramer_queueBlock (i : SurfaceId) (f : Framer) : (s.withFramer i f).queueBlock = s.queueBlock := by cases i <;> rfl
@[simp] theorem State.withFramer_attn (i : SurfaceId) (f : Framer) : (s.withFramer i f).attn = s.attn := by cases i <;> rfl
@[simp] theorem State.withFramer_packetError (i : SurfaceId) (f : Framer) : (s.withFramer i f).packetError = s.packetError := by cases i <;> rfl
@[simp] theorem State.withFramer_requestRefused (i : SurfaceId) (f : Framer) : (s.withFramer i f).requestRefused = s.requestRefused := by cases i <;> rfl
@[simp] theorem State.withFramer_packetCrcCount (i : SurfaceId) (f : Framer) : (s.withFramer i f).packetCrcCount = s.packetCrcCount := by cases i <;> rfl
@[simp] theorem State.withFramer_refusedCount (i : SurfaceId) (f : Framer) : (s.withFramer i f).refusedCount = s.refusedCount := by cases i <;> rfl
@[simp] theorem State.withFramer_transaction (i : SurfaceId) (f : Framer) : (s.withFramer i f).transaction = s.transaction := by cases i <;> rfl
@[simp] theorem State.withFramer_buffer (i : SurfaceId) (f : Framer) : (s.withFramer i f).buffer = s.buffer := by cases i <;> rfl
@[simp] theorem State.withFramer_headWaited (i : SurfaceId) (f : Framer) : (s.withFramer i f).headWaited = s.headWaited := by cases i <;> rfl
@[simp] theorem State.withFramer_pendingCapture (i : SurfaceId) (f : Framer) : (s.withFramer i f).pendingCapture = s.pendingCapture := by cases i <;> rfl
@[simp] theorem State.withFramer_captureBuffer (i : SurfaceId) (f : Framer) : (s.withFramer i f).captureBuffer = s.captureBuffer := by cases i <;> rfl
@[simp] theorem State.withFramer_fault (i : SurfaceId) (f : Framer) : (s.withFramer i f).fault = s.fault := by cases i <;> rfl
@[simp] theorem State.withFramer_posture (i : SurfaceId) (f : Framer) : (s.withFramer i f).posture = s.posture := by cases i <;> rfl
@[simp] theorem State.withFramer_free (i : SurfaceId) (f : Framer) : (s.withFramer i f).free = s.free := by cases i <;> rfl
@[simp] theorem State.withFramer_pending (i : SurfaceId) (f : Framer) : (s.withFramer i f).pending = s.pending := by cases i <;> rfl

@[simp] theorem State.countLink_started (i : SurfaceId) (f : LinkCounters → LinkCounters) : (s.countLink i f).started = s.started := by cases i <;> rfl
@[simp] theorem State.countLink_straps (i : SurfaceId) (f : LinkCounters → LinkCounters) : (s.countLink i f).straps = s.straps := by cases i <;> rfl
@[simp] theorem State.countLink_cyclesPerTick (i : SurfaceId) (f : LinkCounters → LinkCounters) : (s.countLink i f).cyclesPerTick = s.cyclesPerTick := by cases i <;> rfl
@[simp] theorem State.countLink_time (i : SurfaceId) (f : LinkCounters → LinkCounters) : (s.countLink i f).time = s.time := by cases i <;> rfl
@[simp] theorem State.countLink_resetCause (i : SurfaceId) (f : LinkCounters → LinkCounters) : (s.countLink i f).resetCause = s.resetCause := by cases i <;> rfl
@[simp] theorem State.countLink_padRejection (i : SurfaceId) (f : LinkCounters → LinkCounters) : (s.countLink i f).padRejection = s.padRejection := by cases i <;> rfl
@[simp] theorem State.countLink_padRejectionReady (i : SurfaceId) (f : LinkCounters → LinkCounters) : (s.countLink i f).padRejectionReady = s.padRejectionReady := by cases i <;> rfl
@[simp] theorem State.countLink_panelRejection (i : SurfaceId) (f : LinkCounters → LinkCounters) : (s.countLink i f).panelRejection = s.panelRejection := by cases i <;> rfl
@[simp] theorem State.countLink_panelRejectionReady (i : SurfaceId) (f : LinkCounters → LinkCounters) : (s.countLink i f).panelRejectionReady = s.panelRejectionReady := by cases i <;> rfl
@[simp] theorem State.countLink_penBlock (i : SurfaceId) (f : LinkCounters → LinkCounters) : (s.countLink i f).penBlock = s.penBlock := by cases i <;> rfl
@[simp] theorem State.countLink_penBlockReady (i : SurfaceId) (f : LinkCounters → LinkCounters) : (s.countLink i f).penBlockReady = s.penBlockReady := by cases i <;> rfl
@[simp] theorem State.countLink_gestureTable (i : SurfaceId) (f : LinkCounters → LinkCounters) : (s.countLink i f).gestureTable = s.gestureTable := by cases i <;> rfl
@[simp] theorem State.countLink_gestureReady (i : SurfaceId) (f : LinkCounters → LinkCounters) : (s.countLink i f).gestureReady = s.gestureReady := by cases i <;> rfl
@[simp] theorem State.countLink_curve (i : SurfaceId) (f : LinkCounters → LinkCounters) : (s.countLink i f).curve = s.curve := by cases i <;> rfl
@[simp] theorem State.countLink_slots (i : SurfaceId) (f : LinkCounters → LinkCounters) : (s.countLink i f).slots = s.slots := by cases i <;> rfl
@[simp] theorem State.countLink_nextContact (i : SurfaceId) (f : LinkCounters → LinkCounters) : (s.countLink i f).nextContact = s.nextContact := by cases i <;> rfl
@[simp] theorem State.countLink_switchReported (i : SurfaceId) (f : LinkCounters → LinkCounters) : (s.countLink i f).switchReported = s.switchReported := by cases i <;> rfl
@[simp] theorem State.countLink_guard (i : SurfaceId) (f : LinkCounters → LinkCounters) : (s.countLink i f).guard = s.guard := by cases i <;> rfl
@[simp] theorem State.countLink_linger (i : SurfaceId) (f : LinkCounters → LinkCounters) : (s.countLink i f).linger = s.linger := by cases i <;> rfl
@[simp] theorem State.countLink_pen (i : SurfaceId) (f : LinkCounters → LinkCounters) : (s.countLink i f).pen = s.pen := by cases i <;> rfl
@[simp] theorem State.countLink_penCorrected (i : SurfaceId) (f : LinkCounters → LinkCounters) : (s.countLink i f).penCorrected = s.penCorrected := by cases i <;> rfl
@[simp] theorem State.countLink_penUncorrectable (i : SurfaceId) (f : LinkCounters → LinkCounters) : (s.countLink i f).penUncorrectable = s.penUncorrectable := by cases i <;> rfl
@[simp] theorem State.countLink_gesture (i : SurfaceId) (f : LinkCounters → LinkCounters) : (s.countLink i f).gesture = s.gesture := by cases i <;> rfl
@[simp] theorem State.countLink_queue (i : SurfaceId) (f : LinkCounters → LinkCounters) : (s.countLink i f).queue = s.queue := by cases i <;> rfl
@[simp] theorem State.countLink_mergedCount (i : SurfaceId) (f : LinkCounters → LinkCounters) : (s.countLink i f).mergedCount = s.mergedCount := by cases i <;> rfl
@[simp] theorem State.countLink_deferredCount (i : SurfaceId) (f : LinkCounters → LinkCounters) : (s.countLink i f).deferredCount = s.deferredCount := by cases i <;> rfl
@[simp] theorem State.countLink_droppedCount (i : SurfaceId) (f : LinkCounters → LinkCounters) : (s.countLink i f).droppedCount = s.droppedCount := by cases i <;> rfl
@[simp] theorem State.countLink_queueBlock (i : SurfaceId) (f : LinkCounters → LinkCounters) : (s.countLink i f).queueBlock = s.queueBlock := by cases i <;> rfl
@[simp] theorem State.countLink_attn (i : SurfaceId) (f : LinkCounters → LinkCounters) : (s.countLink i f).attn = s.attn := by cases i <;> rfl
@[simp] theorem State.countLink_packetError (i : SurfaceId) (f : LinkCounters → LinkCounters) : (s.countLink i f).packetError = s.packetError := by cases i <;> rfl
@[simp] theorem State.countLink_requestRefused (i : SurfaceId) (f : LinkCounters → LinkCounters) : (s.countLink i f).requestRefused = s.requestRefused := by cases i <;> rfl
@[simp] theorem State.countLink_packetCrcCount (i : SurfaceId) (f : LinkCounters → LinkCounters) : (s.countLink i f).packetCrcCount = s.packetCrcCount := by cases i <;> rfl
@[simp] theorem State.countLink_refusedCount (i : SurfaceId) (f : LinkCounters → LinkCounters) : (s.countLink i f).refusedCount = s.refusedCount := by cases i <;> rfl
@[simp] theorem State.countLink_transaction (i : SurfaceId) (f : LinkCounters → LinkCounters) : (s.countLink i f).transaction = s.transaction := by cases i <;> rfl
@[simp] theorem State.countLink_buffer (i : SurfaceId) (f : LinkCounters → LinkCounters) : (s.countLink i f).buffer = s.buffer := by cases i <;> rfl
@[simp] theorem State.countLink_headWaited (i : SurfaceId) (f : LinkCounters → LinkCounters) : (s.countLink i f).headWaited = s.headWaited := by cases i <;> rfl
@[simp] theorem State.countLink_pendingCapture (i : SurfaceId) (f : LinkCounters → LinkCounters) : (s.countLink i f).pendingCapture = s.pendingCapture := by cases i <;> rfl
@[simp] theorem State.countLink_captureBuffer (i : SurfaceId) (f : LinkCounters → LinkCounters) : (s.countLink i f).captureBuffer = s.captureBuffer := by cases i <;> rfl
@[simp] theorem State.countLink_fault (i : SurfaceId) (f : LinkCounters → LinkCounters) : (s.countLink i f).fault = s.fault := by cases i <;> rfl
@[simp] theorem State.countLink_posture (i : SurfaceId) (f : LinkCounters → LinkCounters) : (s.countLink i f).posture = s.posture := by cases i <;> rfl
@[simp] theorem State.countLink_free (i : SurfaceId) (f : LinkCounters → LinkCounters) : (s.countLink i f).free = s.free := by cases i <;> rfl
@[simp] theorem State.countLink_pending (i : SurfaceId) (f : LinkCounters → LinkCounters) : (s.countLink i f).pending = s.pending := by cases i <;> rfl

@[simp] theorem State.surface_pad : s.surface .pad = s.pad := rfl

@[simp] theorem State.surface_panel : s.surface .panel = s.panel := rfl

@[simp] theorem State.withSurface_surface (i : SurfaceId) (v : Surface) : (s.withSurface i v).surface i = v := by
  cases i <;> rfl

theorem State.withSurface_surface_ne {i j : SurfaceId} (h : j ≠ i) (v : Surface) :
    (s.withSurface i v).surface j = s.surface j := by
  cases i <;> cases j <;> first | rfl | exact absurd rfl h

@[simp] theorem State.withSurface_pad_pad (v : Surface) : (s.withSurface .pad v).pad = v := rfl

@[simp] theorem State.withSurface_pad_panel (v : Surface) : (s.withSurface .pad v).panel = s.panel := rfl

@[simp] theorem State.withSurface_panel_panel (v : Surface) : (s.withSurface .panel v).panel = v := rfl

@[simp] theorem State.withSurface_panel_pad (v : Surface) : (s.withSurface .panel v).pad = s.pad := rfl

@[simp] theorem State.withFramer_surface (i : SurfaceId) (f : Framer) :
    (s.withFramer i f).surface i = { s.surface i with framer := f } := by
  cases i <;> rfl

@[simp] theorem State.countLink_surface (i : SurfaceId) (f : LinkCounters → LinkCounters) :
    (s.countLink i f).surface i = { s.surface i with counters := f (s.surface i).counters } := by
  cases i <;> rfl

/-- An update of the same surface twice leaves the second. -/
@[simp] theorem State.withSurface_withSurface (i : SurfaceId) (v w : Surface) :
    (s.withSurface i v).withSurface i w = s.withSurface i w := by
  cases i <;> rfl

end Sys2Proof.Machine
end

