-- ==== Sys2Proof/Laws/Ops.lean ====
section
/-! SUPPORT. What each shared operation can do, said once: its cases, and the fields it can change. -/

namespace Sys2Proof.Machine

variable (s : State)

/-! ## Faults -/

/-- All that raising a fault can do (R181). -/
theorem State.raiseFault_cases (k : FaultKind) (src : FaultSource) (q : Byte) (d : Nat) :
    (s.queueBlock.captureMask.getLsbD (codeIn faultKindOrder k) = false ∧ s.raiseFault k src q d = s) ∨
      (s.queueBlock.captureMask.getLsbD (codeIn faultKindOrder k) = true ∧
        ((∃ f, s.fault = some f ∧ s.raiseFault k src q d = s.withFault (some { f with more := true })) ∨
          (s.fault = none ∧ s.raiseFault k src q d =
            (s.withFault (some { kind := k, source := src, sequence := q, detail := d, timestamp := low16 s.time,
                                 more := false })).requestAlert
              { kind := k, source := src, sequence := q, detail := d, timestamp := low16 s.time, more := false }))) := by
  unfold State.raiseFault
  cases hm : s.queueBlock.captureMask.getLsbD (codeIn faultKindOrder k) with
  | false => simp
  | true => cases hf : s.fault <;> simp

/-- An ALERT request appends one record or nothing (R166, R181). -/
theorem State.requestAlert_cases (f : FaultRecord) :
    (s.alertPresent = true ∧ s.requestAlert f = s) ∨
      (s.alertPresent = false ∧ s.requestAlert f = s.append f.sequence f.timestamp (.alert f)) := by
  unfold State.requestAlert
  cases s.alertPresent <;> simp

/-- An append changes the queue and the pin alone. -/
theorem State.append_frame (q : Byte) (t : BitVec 16) (b : Body) :
    ∃ q' a, s.append q t b = { s with queue := q', attn := a } := ⟨_, _, rfl⟩

/-- A RESPONSE changes the queue and the pin alone. -/
theorem State.respond_frame (t c : Byte) (r : ResponseCode) (d : List Byte) :
    ∃ q' a, s.respond t c r d = { s with queue := q', attn := a } := ⟨_, _, rfl⟩

/-- Raising a fault changes the fault record, the queue and the pin alone. -/
theorem State.raiseFault_frame (k : FaultKind) (src : FaultSource) (q : Byte) (d : Nat) :
    ∃ f q' a, s.raiseFault k src q d = { s with fault := f, queue := q', attn := a } := by
  obtain ⟨-, h⟩ | ⟨-, ⟨f, -, h⟩ | ⟨-, h⟩⟩ := s.raiseFault_cases k src q d
  · exact ⟨s.fault, s.queue, s.attn, h⟩
  · exact ⟨_, s.queue, s.attn, h⟩
  · rw [h]
    obtain ⟨-, e⟩ | ⟨-, e⟩ := State.requestAlert_cases
      (s.withFault (some { kind := k, source := src, sequence := q, detail := d, timestamp := low16 s.time,
                           more := false }))
      { kind := k, source := src, sequence := q, detail := d, timestamp := low16 s.time, more := false }
    · exact ⟨_, s.queue, s.attn, e⟩
    · exact ⟨_, _, _, e⟩

/-! ## The queue -/

/-- All that an offer can do (R163). -/
theorem State.offer_cases (q : Byte) (t : BitVec 16) (b : Body) :
    (s.offer q t b = (.appended, s.append q t b) ∧
        (s.generalCount < s.queueBlock.almostFull ∨ s.generalCount < 59)) ∨
      (∃ r, s.mergedQueue q t b = some r ∧ s.queueBlock.almostFull ≤ s.generalCount ∧
        s.offer q t b = (.merged, { s.withQueue r with mergedCount := bump s.mergedCount 1 })) ∨
      (b.defers = true ∧ 59 ≤ s.generalCount ∧
        s.offer q t b = (.deferred, { s with deferredCount := bump s.deferredCount 1 })) ∨
      (b.defers = false ∧ 59 ≤ s.generalCount ∧
        s.offer q t b = (.dropped,
          { s with droppedCount := bump s.droppedCount 1 }.raiseFault .queueDrop .queue q b.kindCode)) := by
  unfold State.offer
  by_cases h1 : s.generalCount < s.queueBlock.almostFull
  · simp [h1]
  · cases hm : s.mergedQueue q t b with
    | some r => exact .inr (.inl ⟨r, rfl, by omega, by simp [h1]⟩)
    | none =>
      by_cases h2 : s.generalCount < 59
      · simp [h1, h2]
      · cases hd : b.defers
        · simp [h1, h2]; omega
        · simp [h1, h2]; omega

/-- An offer changes the queue, its counters, the pin and the fault record alone. -/
theorem State.offer_frame (q : Byte) (t : BitVec 16) (b : Body) :
    ∃ q' a m d x f, (s.offer q t b).2 =
      { s with queue := q', attn := a, mergedCount := m, deferredCount := d, droppedCount := x, fault := f } := by
  obtain ⟨h, -⟩ | ⟨r, -, -, h⟩ | ⟨-, -, h⟩ | ⟨-, -, h⟩ := s.offer_cases q t b
  · rw [h]; exact ⟨_, _, s.mergedCount, s.deferredCount, s.droppedCount, s.fault, rfl⟩
  · rw [h]; exact ⟨_, _, _, s.deferredCount, s.droppedCount, s.fault, rfl⟩
  · rw [h]; exact ⟨s.queue, s.attn, s.mergedCount, _, s.droppedCount, s.fault, rfl⟩
  · rw [h]
    obtain ⟨f, q', a, e⟩ := State.raiseFault_frame { s with droppedCount := bump s.droppedCount 1 } .queueDrop .queue q
      b.kindCode
    exact ⟨q', a, s.mergedCount, s.deferredCount, _, f, e⟩

/-- A frame report's offer, by its outcome (R104, R105). -/
theorem State.offerFrameReport_cases (q : Byte) (t : BitVec 16) (r : FrameReport) :
    ((s.offer q t (.frameReport r)).1.placed = false ∧
        s.offerFrameReport q t r = (s.offer q t (.frameReport r)).2) ∨
      ((s.offer q t (.frameReport r)).1.placed = true ∧
        s.offerFrameReport q t r =
          { (s.offer q t (.frameReport r)).2 with
            slots := s.slots.map (fun k => if k.ofSurface r.surface then k.placed r.entries else k)
            switchReported := if r.surface == .pad then r.switchClosed else s.switchReported }) := by
  obtain ⟨q', a, m, d, x, f, e⟩ := s.offer_frame q t (.frameReport r)
  unfold State.offerFrameReport
  cases hp : (s.offer q t (.frameReport r)).1.placed with
  | false => simp [hp]
  | true => simp [hp, e]

/-- A frame report's offer changes the slots and the reported switch beside what an offer changes. -/
theorem State.offerFrameReport_frame (q : Byte) (t : BitVec 16) (r : FrameReport) :
    ∃ q' a m d x f l w, s.offerFrameReport q t r =
      { s with queue := q', attn := a, mergedCount := m, deferredCount := d, droppedCount := x, fault := f,
               slots := l, switchReported := w } := by
  obtain ⟨q', a, m, d, x, f, e⟩ := s.offer_frame q t (.frameReport r)
  obtain ⟨-, h⟩ | ⟨-, h⟩ := s.offerFrameReport_cases q t r
  · exact ⟨q', a, m, d, x, f, s.slots, s.switchReported, by rw [h, e]⟩
  · exact ⟨q', a, m, d, x, f, _, _, by rw [h, e]⟩

/-- A closing-only report changes what a frame report's offer changes. -/
theorem State.closingOnlyReport_frame (i : SurfaceId) :
    ∃ q' a m d x f l w, s.closingOnlyReport i =
      { s with queue := q', attn := a, mergedCount := m, deferredCount := d, droppedCount := x, fault := f,
               slots := l, switchReported := w } := by
  simp only [State.closingOnlyReport]
  split
  · exact ⟨s.queue, s.attn, s.mergedCount, s.deferredCount, s.droppedCount, s.fault, s.slots, s.switchReported, rfl⟩
  · exact s.offerFrameReport_frame _ _ _

/-- A frame's report changes what a frame report's offer changes. -/
theorem State.frameReport_frame (i : SurfaceId) (g : ImageFrame) :
    ∃ q' a m d x f l w, s.frameReport i g =
      { s with queue := q', attn := a, mergedCount := m, deferredCount := d, droppedCount := x, fault := f,
               slots := l, switchReported := w } := by
  simp only [State.frameReport]
  split
  all_goals first
    | exact ⟨s.queue, s.attn, s.mergedCount, s.deferredCount, s.droppedCount, s.fault, s.slots, s.switchReported, rfl⟩
    | (split <;> first
        | exact ⟨s.queue, s.attn, s.mergedCount, s.deferredCount, s.droppedCount, s.fault, s.slots, s.switchReported,
            rfl⟩
        | exact s.offerFrameReport_frame _ _ _)

/-- An END's offer changes the engine's pending END beside what an offer changes (R160). -/
theorem State.offerEnd_frame (e : PendingEnd) :
    ∃ q' a m d x f p, s.offerEnd e =
      { s with queue := q', attn := a, mergedCount := m, deferredCount := d, droppedCount := x, fault := f,
               gesture := { s.gesture with pendingEnd := p } } := by
  obtain ⟨q', a, m, d, x, f, h⟩ := s.offer_frame e.sequence e.timestamp (.gestureEnd e.number e.reason 1)
  refine ⟨q', a, m, d, x, f,
    if (s.offer e.sequence e.timestamp (.gestureEnd e.number e.reason 1)).1.placed then none else some e, ?_⟩
  change State.withGesture (s.offer e.sequence e.timestamp (.gestureEnd e.number e.reason 1)).2
    { (s.offer e.sequence e.timestamp (.gestureEnd e.number e.reason 1)).2.gesture with
      pendingEnd :=
        if (s.offer e.sequence e.timestamp (.gestureEnd e.number e.reason 1)).1.placed then none else some e } = _
  rw [h]
  rfl

/-- Retrying the pending END changes what an END's offer changes (R160). -/
theorem State.retryEnd_frame :
    ∃ q' a m d x f p, s.retryEnd =
      { s with queue := q', attn := a, mergedCount := m, deferredCount := d, droppedCount := x, fault := f,
               gesture := { s.gesture with pendingEnd := p } } := by
  unfold State.retryEnd
  split
  · exact s.offerEnd_frame _
  · exact ⟨s.queue, s.attn, s.mergedCount, s.deferredCount, s.droppedCount, s.fault, s.gesture.pendingEnd, rfl⟩

/-- One event's offer changes the engine beside what an offer changes (R159). -/
theorem State.offerEvent_frame (q : Byte) (t : BitVec 16) (e : GestureEvent) :
    ∃ q' a m d x f g, s.offerEvent q t e =
      { s with queue := q', attn := a, mergedCount := m, deferredCount := d, droppedCount := x, fault := f,
               gesture := g } := by
  cases e with
  | ended number reason =>
    obtain ⟨q', a, m, d, x, f, p, h⟩ := s.offerEnd_frame
      { number := number, reason := reason, sequence := q, timestamp := t }
    exact ⟨q', a, m, d, x, f, _, h⟩
  | began b =>
    obtain ⟨q', a, m, d, x, f, h⟩ := s.offer_frame q t (.gestureBegin b)
    simp only [State.offerEvent, h]
    split
    · exact ⟨q', a, m, d, x, f, s.gesture, rfl⟩
    · exact ⟨q', a, m, d, x, f, _, rfl⟩
  | tapped code fingers duration =>
    obtain ⟨q', a, m, d, x, f, h⟩ := s.offer_frame q t (GestureEvent.tapped code fingers duration).body
    exact ⟨q', a, m, d, x, f, s.gesture, h⟩
  | updated u =>
    obtain ⟨q', a, m, d, x, f, h⟩ := s.offer_frame q t (GestureEvent.updated u).body
    exact ⟨q', a, m, d, x, f, s.gesture, h⟩
  | pressed code fingers =>
    obtain ⟨q', a, m, d, x, f, h⟩ := s.offer_frame q t (GestureEvent.pressed code fingers).body
    exact ⟨q', a, m, d, x, f, s.gesture, h⟩
  | released fingers =>
    obtain ⟨q', a, m, d, x, f, h⟩ := s.offer_frame q t (GestureEvent.released fingers).body
    exact ⟨q', a, m, d, x, f, s.gesture, h⟩

/-- A stage's events change the engine beside what an offer changes (R159). -/
theorem State.offerEvents_frame (q : Byte) (t : BitVec 16) (es : List GestureEvent) :
    ∃ q' a m d x f g, s.offerEvents q t es =
      { s with queue := q', attn := a, mergedCount := m, deferredCount := d, droppedCount := x, fault := f,
               gesture := g } := by
  unfold State.offerEvents
  generalize ((upTo 5).flatMap (fun rank => es.filter (fun e => e.rank == rank))) = l
  induction l generalizing s with
  | nil => exact ⟨s.queue, s.attn, s.mergedCount, s.deferredCount, s.droppedCount, s.fault, s.gesture, rfl⟩
  | cons e l ih =>
    obtain ⟨q', a, m, d, x, f, g, h⟩ := s.offerEvent_frame q t e
    obtain ⟨q2, a2, m2, d2, x2, f2, g2, h2⟩ := ih (s.offerEvent q t e)
    exact ⟨q2, a2, m2, d2, x2, f2, g2, by rw [List.foldl_cons, h2, h]⟩

/-- A cancellation outside a frame changes the engine beside what an offer changes (R158). -/
theorem State.cancelOutside_frame :
    ∃ q' a m d x f g, s.cancelOutside =
      { s with queue := q', attn := a, mergedCount := m, deferredCount := d, droppedCount := x, fault := f,
               gesture := g } := by
  simp only [State.cancelOutside]
  generalize (if (padClear s.slots && s.pad.reporting.holds s.posture && s.pad.reporting.hasGestures) = true then
    s.gesture.block.unblock else s.gesture.block) = g
  split
  · obtain ⟨q', a, m, d, x, f, p, h⟩ := State.offerEnd_frame (s.withGesture g)
      { number := s.gesture.number, reason := .cancelled, sequence := s.pad.lastTracked, timestamp := low16 s.time }
    exact ⟨q', a, m, d, x, f, _, h⟩
  · exact ⟨s.queue, s.attn, s.mergedCount, s.deferredCount, s.droppedCount, s.fault, g, rfl⟩

/-- A pen report's offer changes what an offer changes (R140, R141). -/
theorem State.offerPenReport_frame (q : Byte) (t : BitVec 16) (p : PenRecord) :
    ∃ q' a m d x f, s.offerPenReport q t p =
      { s with queue := q', attn := a, mergedCount := m, deferredCount := d, droppedCount := x, fault := f } := by
  unfold State.offerPenReport
  split
  · exact s.offer_frame _ _ _
  · exact ⟨s.queue, s.attn, s.mergedCount, s.deferredCount, s.droppedCount, s.fault, rfl⟩

/-! ## Surface ends -/

/-- The pen's surface end changes the record and the linger state beside what an offer changes (R144). -/
theorem State.endPen_frame :
    ∃ q' a m d x f p, s.endPen =
      { s with queue := q', attn := a, mergedCount := m, deferredCount := d, droppedCount := x, fault := f,
               pen := p, linger := none } := by
  simp only [State.endPen]
  split
  · exact ⟨s.queue, s.attn, s.mergedCount, s.deferredCount, s.droppedCount, s.fault, _, rfl⟩
  · obtain ⟨q', a, m, d, x, f, h⟩ := State.offerPenReport_frame
      ((s.withPen { s.pen with state := .outOfRange, coasting := false, missing := 0 }.clearData).withLinger none)
      s.pen.lastSequence (low16 s.time) { s.pen with state := .outOfRange, coasting := false, missing := 0 }
    exact ⟨q', a, m, d, x, f, _, h⟩

/-- Aborting a capture: nothing, or one RESPONSE in its place (R52). -/
theorem State.abortCapture_cases (i : SurfaceId) :
    (s.abortCapture i = s ∧ ∀ c, s.pendingCapture = some c → c.surface ≠ i) ∨
      (∃ c, s.pendingCapture = some c ∧ c.surface = i ∧
        s.abortCapture i = (s.withPendingCapture none).respond c.tag 11 .aborted []) := by
  unfold State.abortCapture
  cases h : s.pendingCapture with
  | none => simp
  | some c =>
    by_cases hc : c.surface = i
    · exact .inr ⟨c, rfl, hc, by simp [hc]⟩
    · exact .inl ⟨by simp [hc], by rintro c' ⟨⟩; exact hc⟩

/-- The five effects of a surface end in their order: they change its own surface's context, the slots, the engine or the
pen, the capture, and the queue with its counters (R14). -/
theorem State.endEffects_frame (i : SurfaceId) (status : SurfaceState) :
    ∃ q' a m d x f l w g p n c,
      ((((s.withSurface i ((s.surface i).ended status)).endSlots i).closingOnlyReport i).endOwner i).abortCapture i =
      State.withSurface
        { s with queue := q', attn := a, mergedCount := m, deferredCount := d, droppedCount := x, fault := f,
                 slots := l, switchReported := w, gesture := g, pen := p, linger := n, pendingCapture := c }
        i ((s.surface i).ended status) := by
  obtain ⟨q1, a1, m1, d1, x1, f1, l1, w1, h1⟩ :=
    State.closingOnlyReport_frame ((s.withSurface i ((s.surface i).ended status)).endSlots i) i
  rw [h1]
  cases i with
  | pad =>
    obtain ⟨q2, a2, m2, d2, x2, f2, g2, h2⟩ := State.cancelOutside_frame
      { (s.withSurface .pad ((s.surface .pad).ended status)).endSlots .pad with
        queue := q1, attn := a1, mergedCount := m1, deferredCount := d1, droppedCount := x1, fault := f1, slots := l1,
        switchReported := w1 }
    simp only [State.endOwner]
    rw [h2]
    obtain ⟨h3, -⟩ | ⟨c, -, -, h3⟩ := State.abortCapture_cases
      { (s.withSurface .pad ((s.surface .pad).ended status)).endSlots .pad with
        queue := q2, attn := a2, mergedCount := m2, deferredCount := d2, droppedCount := x2, fault := f2, slots := l1,
        switchReported := w1, gesture := g2 } .pad
    · exact ⟨q2, a2, m2, d2, x2, f2, l1, w1, g2, s.pen, s.linger, s.pendingCapture, h3⟩
    · exact ⟨_, _, m2, d2, x2, f2, l1, w1, g2, s.pen, s.linger, none, h3⟩
  | panel =>
    obtain ⟨q2, a2, m2, d2, x2, f2, p2, h2⟩ := State.endPen_frame
      { (s.withSurface .panel ((s.surface .panel).ended status)).endSlots .panel with
        queue := q1, attn := a1, mergedCount := m1, deferredCount := d1, droppedCount := x1, fault := f1, slots := l1,
        switchReported := w1 }
    simp only [State.endOwner]
    rw [h2]
    obtain ⟨h3, -⟩ | ⟨c, -, -, h3⟩ := State.abortCapture_cases
      { (s.withSurface .panel ((s.surface .panel).ended status)).endSlots .panel with
        queue := q2, attn := a2, mergedCount := m2, deferredCount := d2, droppedCount := x2, fault := f2, slots := l1,
        switchReported := w1, pen := p2, linger := none } .panel
    · exact ⟨q2, a2, m2, d2, x2, f2, l1, w1, s.gesture, p2, none, s.pendingCapture, h3⟩
    · exact ⟨_, _, m2, d2, x2, f2, l1, w1, s.gesture, p2, none, none, h3⟩

/-- A surface end changes its own surface's context, the slots, the engine or the pen, the capture, and the queue
with its counters; a request that waited for its
frames is noted; every other item stands (R14, R176). -/
theorem State.endSurface_frame (i : SurfaceId) (status : SurfaceState) :
    ∃ q' a m d x f l w g p n c, s.endSurface i status =
      State.withSurface
        { s with headWaited := s.headWaited || s.headWaits, queue := q', attn := a, mergedCount := m,
                 deferredCount := d, droppedCount := x, fault := f, slots := l, switchReported := w, gesture := g,
                 pen := p, linger := n, pendingCapture := c }
        i ((s.surface i).ended status) := by
  obtain ⟨q', a, m, d, x, f, l, w, g, p, n, c, h⟩ := s.noteWait.endEffects_frame i status
  exact ⟨q', a, m, d, x, f, l, w, g, p, n, c, by cases i <;> exact h⟩

/-! ## Frames taken and answers -/

/-- All that taking an IMAGE frame can do (R25). -/
theorem State.takeImageUnless_cases (held : Bool) (i : SurfaceId) :
    s.takeImageUnless held i = s ∨
      ∃ f, (s.surface i).imageSlot = some f ∧ (s.surface i).imageFlight = none ∧ held = false ∧
        s.takeImageUnless held i = s.withSurface i
          { s.surface i with imageSlot := none, imageFlight := some { frame := f, progress := .taken } } := by
  simp only [State.takeImageUnless]
  cases h : (s.surface i).imageSlot with
  | none => simp
  | some f => cases hf : (s.surface i).imageFlight <;> cases held <;> simp

/-- All that taking a PEN frame can do (R25). -/
theorem State.takePenUnless_cases (held : Bool) (i : SurfaceId) :
    s.takePenUnless held i = s ∨
      ∃ f, (s.surface i).penSlot = some f ∧ (s.surface i).penFlight = none ∧ held = false ∧
        s.takePenUnless held i = s.withSurface i { s.surface i with penSlot := none, penFlight := some f } := by
  simp only [State.takePenUnless]
  cases h : (s.surface i).penSlot with
  | none => simp
  | some f => cases hf : (s.surface i).penFlight <;> cases held <;> simp

/-- Taking frames changes the two surfaces' contexts alone. -/
theorem State.takeImageUnless_frame (held : Bool) (i : SurfaceId) :
    ∃ v w, s.takeImageUnless held i = { s with pad := v, panel := w } := by
  obtain h | ⟨f, -, -, -, h⟩ := s.takeImageUnless_cases held i
  · exact ⟨s.pad, s.panel, h⟩
  · cases i
    · exact ⟨_, s.panel, h⟩
    · exact ⟨s.pad, _, h⟩

theorem State.takePenUnless_frame (held : Bool) (i : SurfaceId) :
    ∃ v w, s.takePenUnless held i = { s with pad := v, panel := w } := by
  obtain h | ⟨f, -, -, -, h⟩ := s.takePenUnless_cases held i
  · exact ⟨s.pad, s.panel, h⟩
  · cases i
    · exact ⟨_, s.panel, h⟩
    · exact ⟨s.pad, _, h⟩

theorem State.takeImage_frame (i : SurfaceId) : ∃ v w, s.takeImage i = { s with pad := v, panel := w } :=
  s.takeImageUnless_frame _ i

theorem State.takePen_frame (i : SurfaceId) : ∃ v w, s.takePen i = { s with pad := v, panel := w } :=
  s.takePenUnless_frame _ i

theorem State.takeFrames_frame : ∃ v w, s.takeFrames = { s with pad := v, panel := w } := by
  unfold State.takeFrames
  obtain ⟨v1, w1, h1⟩ := s.takeImageUnless_frame (s.holdsImage .pad) .pad
  rw [h1]
  obtain ⟨v2, w2, h2⟩ := State.takePenUnless_frame { s with pad := v1, panel := w1 } (s.holdsPen .pad) .pad
  rw [h2]
  obtain ⟨v3, w3, h3⟩ := State.takeImageUnless_frame { s with pad := v2, panel := w2 } (s.holdsImage .panel) .panel
  rw [h3]
  obtain ⟨v4, w4, h4⟩ := State.takePenUnless_frame { s with pad := v3, panel := w3 } (s.holdsPen .panel) .panel
  exact ⟨v4, w4, h4⟩

/-- An answer pops the buffer's head, appends one RESPONSE, and may take frames; nothing else changes (R175). -/
theorem State.answer_frame (r : Request) (rc : ResponseCode) (d : List Byte) :
    ∃ v w a, s.answer r rc d =
      { s with pad := v, panel := w, buffer := s.buffer.tail, headWaited := false, attn := a,
               queue := s.queue ++ [{ sequence := r.tag, timestamp := low16 s.time, placed := s.time,
                                      body := .response r.code rc d }] } := by
  unfold State.answer
  obtain ⟨v, w, h⟩ := State.takeFrames_frame (s.popHead.respond r.tag r.code rc d)
  exact ⟨v, w, _, h⟩

/-! ## Packet faults -/

/-- A packet fault sets PACKET_ERROR and the counter, may capture the fault, and changes nothing else but what the
release of an open transaction clears (R171). -/
theorem State.packetFault_frame (tag : Byte) (reason : PacketReason) :
    ∃ f q a, s.packetFault tag reason =
      { s with fault := f, queue := q, attn := a, packetError := true, packetCrcCount := bump s.packetCrcCount 1,
               transaction := s.transaction.map (·.keepPacketError) } := by
  unfold State.packetFault
  obtain ⟨f, q, a, h⟩ := State.raiseFault_frame { s with packetCrcCount := bump s.packetCrcCount 1 } .packetCrc
    .systemLink tag (codeIn packetReasonOrder reason)
  rw [h]
  exact ⟨f, q, _, rfl⟩

/-! ## Notices -/

/-- All that a POSTURE notice can do: it sets the posture, or it is a packet fault (R15, R171). -/
theorem State.takePosture_cases (tag : Byte) (payload : List Byte) :
    (∃ p, postureOf payload = some p ∧ s.takePosture tag payload = { s with posture := p }) ∨
      (postureOf payload = none ∧ s.takePosture tag payload = s.packetFault tag .noticeValue) := by
  unfold State.takePosture
  cases postureOf payload <;> simp

/-- POSTURE notices change the posture and what packet faults change, and nothing that a slot, the engine or a surface
holds (R15, R86). -/
theorem State.takeNotices_frame (notices : List PostureNotice) :
    ∃ p f q a e c x, s.takeNotices notices =
      { s with posture := p, fault := f, queue := q, attn := a, packetError := e, packetCrcCount := c,
               transaction := x } := by
  unfold State.takeNotices
  induction notices generalizing s with
  | nil => exact ⟨s.posture, s.fault, s.queue, s.attn, s.packetError, s.packetCrcCount, s.transaction, rfl⟩
  | cons n rest ih =>
    obtain ⟨p, f, q, a, e, c, x, h⟩ := ih (s.takePosture n.tag n.payload)
    rw [List.foldl_cons, h]
    obtain ⟨p', -, h'⟩ | ⟨-, h'⟩ := s.takePosture_cases n.tag n.payload
    · exact ⟨p, f, q, a, e, c, x, by rw [h']⟩
    · obtain ⟨f', q', a', h''⟩ := s.packetFault_frame n.tag .noticeValue
      exact ⟨p, f, q, a, e, c, x, by rw [h', h'']⟩

end Sys2Proof.Machine
end

