-- ==== Sys2Proof/WellFormed.lean ====
section
/-! DEFINITION. Which commands name an event the links can have: the checks on operands alone. -/

namespace Sys2Proof

/-- A command's operands are those of an event the spec describes, before the state is looked at. -/
def Instr.wellFormed : Instr → Bool
  -- R17: a packet enters PAYLOAD only with a declared count of at most 8064
  | .scanPacket _ payload _ => payload.length ≤ 8064
  | .headerComplete _ header => header.payloadCount.toNat ≤ 8064
  | .oversize _ header => 8064 < header.payloadCount.toNat
  -- R168, R188: PUT 01h, TAKE 02h and STATUS 03h are the known codes
  | .unknownTransactionCode code => code.toNat == 0 || 3 < code.toNat
  -- R188, R189: six header bytes and a record of at most 255
  | .transactionRelease sent => sent ≤ 261
  -- R188: a length field of two bytes bounds a notice's payload
  | .posture _ payload => payload.length < 65536
  | .keyActivity _ payload => payload.length < 65536
  | .trackingStep run => (run.afterRejection ++ run.afterGestures).all (fun n => n.payload.length < 65536)
  | .hardwareReset _ | .startUp _ | .timeBaseTick | .truncated _ | .frameTimeout _ | .baselineStage _
  | .regionStage _ | .penStage | .typingGuardExpiry | .lingerDeadline
  | .relayTransmitComplete _ | .put _ | .take | .status | .attnMaxDelay | .unknownRequest | .describe | .start | .stop
  | .rebase | .loadTable | .readTable | .setParams | .readParams | .readStatus | .clearFault | .capture
  | .readCapture | .relay | .softReset | .fullReset | .startDelimiter _ => true

end Sys2Proof
end

