-- ==== Sys2Proof/Tests/Slice0.lean ====
section
/-! SUPPORT. The model's own tests: an ill-formed term for each check of WellFormed, the spec's worked examples on
single operations, and for every statement a small state that meets its hypotheses, clause by clause. -/

open Sys2Proof Sys2Proof.Machine

namespace Sys2Proof.Tests

/- One proof at a time: a hundred kernel evaluations at once ask for more stacks than the memory limit has room for. -/
set_option Elab.async false

/-! ## Small states -/

/-- A started part with both surfaces present. -/
def part : State := { State.reset with started := true, straps := { refsel := 0, panelEn := true, linkPhase := false } }

/-- A started part without PANEL. -/
def padOnly : State := { State.reset with started := true }

/-- A request with tag 9. -/
def request (code : Byte) (payload : List Byte) : Request := { code := code, tag := 9, payload := payload }

/-- The request alone in the buffer. -/
def headed (r : Request) (s : State) : State := { s with buffer := [r] }

/-- The state a command leads to. -/
def ran (c : Instr) (s : State) : State :=
  match exec c s with
  | .next t => t
  | .fault _ => s
  | .refused _ => s

def lines (entries : List LineEntry) : List LineEntry :=
  entries ++ List.replicate (72 - entries.length) .atReset ++ entries ++ List.replicate (56 - entries.length) .atReset

def geometry4 : Geometry :=
  { driveChannels := 4, senseChannels := 4, driveLines := 4, senseLines := 4, polarity := .positive, format := .s16 }

def detection4 : Detection :=
  { touchThreshold := 60, noiseFloor := 10, acquireFrames := 2, driftInterval := 4, driftStep := 3,
    negativeThreshold := 80, anomalyFrames := 3, contactLimit := 10, confirmFrames := 2, coastFrames := 1,
    trackGate := 100, frameTimeout := 50 }

def reporting4 : Reporting :=
  { lx := 1000, ly := 1000, swap := false, invertX := false, invertY := false, mask := 31, mode := .both,
    settleFrames := 1 }

/-- A configured surface of 4 by 4 lines, in the given state, over a level baseline of 1000. -/
def surface4 (status : SurfaceState) : Surface :=
  { Surface.atReset with
    status := status, geometry := geometry4, geometryReady := true, detection := detection4, detectionReady := true,
    reporting := reporting4, reportingReady := true, classReady := true, zoneReady := true, lineMapLoaded := true,
    lineMap := lines [⟨some 0, false⟩, ⟨some 1, false⟩, ⟨some 2, false⟩, ⟨some 3, false⟩]
    timer := if status.processing then some 50 else none, baselineValid := status == .running
    baseline := List.replicate 4 (List.replicate 4 (if status == .running then 1000 else 0)) }

/-- Both surfaces configured and in one state. -/
def board (status : SurfaceState) : State :=
  { part with
    pad := surface4 status, panel := surface4 status, padRejectionReady := true, panelRejectionReady := true,
    penBlockReady := true, gestureReady := true, curve := List.replicate 9 ⟨0, true⟩
    penBlock := { hoverThreshold := 100, penHold := 3 } }

def onPad (s : State) (f : Surface → Surface) : State := { s with pad := f s.pad }

def onPanel (s : State) (f : Surface → Surface) : State := { s with panel := f s.panel }

/-- An IMAGE frame of the 16 samples. -/
def frame (samples : List Int) : ImageFrame :=
  { sequence := 7, elapsed := 1, switchClosed := false, arrival := 0, samples := samples }

def level (x : Int) : List Int := List.replicate 16 x

def penFrame (samples : List Int) (word : Option (BitVec 26)) : PenFrame :=
  { sequence := 7, elapsed := 1, word := word, arrival := 0, samples := samples }

def header (kind : Byte) (bytes : Nat) : ScanHeader :=
  { kind := kind, sequence := 7, driveCount := 4, senseCount := 4, format := 0, flags := 0,
    payloadCount := BitVec.ofNat 16 bytes }

def withFlags (flags : Byte) (h : ScanHeader) : ScanHeader := { h with flags := flags }

/-- A packet of the header is in reception. -/
def receiving (i : SurfaceId) (h : ScanHeader) (s : State) : State :=
  s.withSurface i { s.surface i with framer := .payload h }

/-- The two CRC bytes a front end sends, least significant first (R187). -/
def sealed (h : ScanHeader) (payload : List Byte) : Byte × Byte :=
  let crc := crc16 (headerBytes h ++ payload)
  (crc.setWidth 8, (crc >>> 8).setWidth 8)

def zeros (n : Nat) : List Byte := List.replicate n 0

def record (b : Body) : Record := { sequence := 0, timestamp := 0, placed := 0, body := b }

/-- A queue of so many general records. -/
def crowded (n : Nat) (s : State) : State := { s with queue := List.replicate n (record (.tap 1 1 1 1)) }

def tracked (state : SlotState) (surface : SurfaceId) : Slot :=
  { Slot.cleared with state := state, surface := surface, contact := 1, x := 100, y := 100, age := 5 }

def regionAt (x y : Int) : Region :=
  { area := 1, peak := 500, sum := 500, weight := 490, driveFirst := 1, driveLast := 1, senseFirst := 1,
    senseLast := 1, width := 1, height := 1, density := 500, edge := false, x := x, y := y, touch := .finger }

def update0 : BaselineUpdate := { baseline := [], driftCounter := 0, anomalyCount := 0 }

/-! ## WellFormed -/

theorem test_scan_packet_too_long : (Instr.scanPacket .pad (zeros 8065) (0, 0)).wellFormed = false := by decide +kernel

theorem test_header_complete_oversize :
    (Instr.headerComplete .pad (header 1 8065)).wellFormed = false ∧
      (Instr.headerComplete .pad (header 1 8064)).wellFormed = true := by decide +kernel

theorem test_oversize_in_range :
    (Instr.oversize .pad (header 1 8064)).wellFormed = false ∧
      (Instr.oversize .pad (header 1 8065)).wellFormed = true := by decide +kernel

theorem test_known_code_is_not_unknown :
    [0, 1, 2, 3, 4].map (fun c => (Instr.unknownTransactionCode c).wellFormed) = [true, false, false, false, true] := by
  decide +kernel

theorem test_release_past_the_longest_record :
    (Instr.transactionRelease 262).wellFormed = false ∧ (Instr.transactionRelease 261).wellFormed = true := by
  decide +kernel

theorem test_notice_longer_than_its_length_field :
    (Instr.posture 0 (zeros 65536)).wellFormed = false ∧ (Instr.keyActivity 0 (zeros 65536)).wellFormed = false ∧
      (Instr.trackingStep { surface := .pad, afterGestures := [⟨0, zeros 65536⟩] }).wellFormed = false := by
  decide +kernel

/-! ## Worked examples of the spec -/

/-- The check value of a CRC of this polynomial and start, most significant bit first (notes/assumptions/2.md). -/
theorem test_crc_of_the_nine_digits :
    crc16 [0x31, 0x32, 0x33, 0x34, 0x35, 0x36, 0x37, 0x38, 0x39] = 0x29B1 := by decide +kernel

/-- Chapter 2, "a line map from load to substitution": the drive pass over d0, d3, d4, then the sense pass over s2. -/
theorem test_substitution_example :
    (substitutePass (List.zipWith average) [0, 0, 0, 0] [0, 3, 4]
      [[0, 0, 0, 0], [30, -7, 500, -8], [100, 12, 500, 20], [0, 0, 0, 0], [0, 0, 0, 0], [41, 4, 500, 6]]).map
        (substitutePass average 0 [2])
      = [[30, -7, -7, -8], [30, -7, -7, -8], [100, 12, 16, 20], [100, 12, 16, 20], [71, 8, 11, 13], [41, 4, 5, 6]] := by
  decide +kernel

/-- Chapter 3, "acquisition and rounding": the three baselines, ties upward. -/
theorem test_baseline_rounding : [4006, -14, 3254].map (rounded · 4) = [1002, -3, 814] := by decide

/-- R38's example: raw 30000 over baseline −5000. -/
theorem test_delta_clamps :
    deltaOf .positive 30000 (-5000) = 32767 ∧ deltaOf .negative 30000 (-5000) = -32768 := by decide

/-- Chapter 3, "drift and its freeze": 1002 toward 1011 by 3, and the last step closes the gap. -/
theorem test_drift_example : (driftNode 3 1011 1002, driftNode 3 1011 1008, driftNode 3 1011 1011) = (1005, 1011, 1011) := by
  decide

def chapter4 : Image :=
  [[5, 12, 20, 40, 70, 59], [30, 90, 65, 14, 8, 70], [44, 59, 33, 75, 10, -6], [100, 25, 9, 18, 3, 2],
   [80, 61, -12, 0, 47, 300]]

def geometry5x6 : Geometry := { geometry4 with driveLines := 5, senseLines := 6 }

def chapter4Regions : List Region :=
  keptRegions geometry5x6 { detection4 with noiseFloor := 20 } (components 60 chapter4)

/-- Chapter 4's first example: the four components by number, with area, peak, sum, density, centroid and edge. -/
theorem test_region_example :
    chapter4Regions.map (fun r => (r.area, r.peak, r.sum, r.density)) =
        [(2, 70, 140, 70), (3, 90, 230, 76), (3, 100, 241, 80), (1, 300, 300, 300)] ∧
      chapter4Regions.map (fun r => (r.x, r.y, r.edge, r.width, r.height)) =
        [(320, 64, true, 2, 2), (154, 117, false, 3, 2), (46, 260, true, 2, 2), (352, 288, true, 1, 1)] := by
  decide +kernel

def classEntry (a0 a1 p0 w0 w1 h0 h1 d1 : Nat) (e : EdgeCondition) (c : TouchClass) : ClassEntry :=
  { used := true, areaMin := a0, areaMax := a1, peakMin := p0, peakMax := 65535, widthMin := w0, widthMax := w1,
    heightMin := h0, heightMax := h1, densityMin := 0, densityMax := d1, edge := e, result := c }

/-- The table of chapter 5's example. -/
def chapter5 : List ClassEntry :=
  [classEntry 4 3072 0 1 2 4 65535 65535 .edge .grip, classEntry 12 65535 0 0 65535 0 65535 65535 .any .palm,
   classEntry 7 11 0 0 65535 0 65535 90 .any .large, classEntry 5 11 0 4 6 1 3 65535 .any .thumb,
   classEntry 1 8 80 0 65535 0 65535 65535 .any .finger]

def shape (a : Nat) (p : Int) (w h : Nat) (d : Int) (e : Bool) : Region :=
  { regionAt 0 0 with area := a, peak := p, width := w, height := h, density := d, edge := e }

/-- Chapter 5's example: the regions of chapter 4, and regions a to d. -/
theorem test_classification_example :
    chapter4Regions.map (classify chapter5) = [.unknown, .finger, .finger, .finger] ∧
      [shape 14 210 2 7 150 true, shape 20 180 5 5 95 false, shape 9 110 3 4 75 false, shape 8 150 4 2 120 true].map
        (classify chapter5) = [.grip, .palm, .large, .thumb] := by decide +kernel

def zone (x0 x1 y0 y1 : Nat) (laptop tent : ZonePolicy) : ZoneEntry :=
  { ZoneEntry.atReset with used := true, x0 := x0, y0 := y0, x1 := x1, y1 := y1, laptop := laptop, tent := tent }

/-- Chapter 5's zone example: the lowest entry that contains the point, and the clip of zone 3. -/
theorem test_zone_example :
    [(800, 900), (300, 900), (100, 900), (1535, 100)].map (fun p => zoneLookup
        { geometry4 with driveLines := 16, senseLines := 24 }
        [zone 448 1087 640 1023 .openZone .openZone, zone 0 1535 768 1023 .hesitant .blockAll,
         zone 0 191 0 1023 .blockNew .blockAll, zone 1344 4095 0 1023 .blockNew .blockAll] .laptop p.1 p.2) =
      [(some 0, .openZone), (some 1, .hesitant), (some 1, .hesitant), (some 3, .blockNew)] := by decide +kernel

def chapter6Slots : List Slot :=
  [{ tracked .active .panel with contact := 19 }, { tracked .active .panel with contact := 21 },
   { tracked .active .pad with contact := 17, x := 500, y := 400, vx := 12, vy := -4, age := 20 },
   .cleared, .cleared, .cleared,
   { tracked .active .pad with contact := 18, x := 640, y := 410, vx := -6, age := 15 }]

/-- Chapter 6, "pairing a frame": positions, velocities, the ID taken and the counter left. -/
theorem test_pairing_example :
    (trackRegions .pad { geometry4 with driveLines := 16, senseLines := 24 }
        { detection4 with trackGate := 160, confirmFrames := 3, contactLimit := 5 } 2
        [regionAt 600 404, regionAt 440 440, regionAt 1200 900] chapter6Slots 19).nextContact = 21 ∧
      ((trackRegions .pad { geometry4 with driveLines := 16, senseLines := 24 }
        { detection4 with trackGate := 160, confirmFrames := 3, contactLimit := 5 } 2
        [regionAt 600 404, regionAt 440 440, regionAt 1200 900] chapter6Slots 19).slots.filter
          (·.surface == .pad)).filterMap (fun k => if k.state == .free then none else
            some (k.contact, k.x, k.y, k.vx, k.vy, k.age)) =
        [(17, 440, 440, -30, 20, 21), (20, 1200, 900, 0, 0, 1), (18, 600, 404, -20, -3, 16)] := by decide +kernel

/-- Chapter 6, "orientation and scaling": the five rows of the table. -/
theorem test_scaling_example :
    [(false, false, false), (false, true, false), (false, false, true), (true, false, false), (true, true, false)].map
        (fun o => logical { reporting4 with lx := 4095, ly := 2047, swap := o.1, invertX := o.2.1, invertY := o.2.2 }
          { geometry4 with driveLines := 16, senseLines := 24 } 542 402) =
      [(1445, 804), (2648, 804), (1445, 1242), (1608, 722), (1608, 1324)] := by decide

/-- Chapter 7, "the writing hand": the sides of the exclusion rectangle, RIGHT and LEFT. -/
theorem test_exclusion_example :
    [(555, 196), (1323, 1028), (554, 500), (1324, 500), (683, 1029)].map (fun p => inExclusion
        { geometry4 with driveLines := 24, senseLines := 40 }
        { PanelRejection.atReset with ahead := 640, back := 128, above := 64, below := 768 } 683 260 p.1 p.2) =
      [true, true, false, false, false] := by decide

/-- Chapter 8, "interpolation": the two axes, and the two cases at the limits. -/
theorem test_interpolation_example :
    axisPosition (List.replicate 9 0 ++ [400, 1000, 700] ++ List.replicate 28 0) 2560 = 683 ∧
      axisPosition ([0, 0, 0, 900, 950, 100] ++ List.replicate 18 0) 1536 = 260 ∧
      axisPosition ([800, 300] ++ List.replicate 38 0) 2560 = 39 ∧
      axisPosition (List.replicate 6 0 ++ [-2000, 600, 600] ++ List.replicate 15 0) 1536 = 511 := by decide +kernel

/-- The word of chapter 8's example: bits 0, 2, 4, 6, 8, 9, 13, 15, 16, 18, 22 and 23. -/
def chapter8Word : BitVec 26 := [0, 2, 4, 6, 8, 9, 13, 15, 16, 18, 22, 23].foldl (fun w n => w ||| (1#26 <<< n)) 0

def chapter8Data : PenData := { raw := 1300, tip := true, barrel := false, eraser := false, batteryLow := false, tag := 3 }

/-- Chapter 8, "decoding a word": as sent, position 13, c0, and positions 1, 9 and 18 flipped. -/
theorem test_word_example :
    decodeWord chapter8Word = .usable .clean chapter8Data ∧
      decodeWord (chapter8Word ^^^ (1#26 <<< 13)) = .usable .corrected chapter8Data ∧
      decodeWord (chapter8Word ^^^ 1#26) = .usable .corrected chapter8Data ∧
      decodeWord (chapter8Word ^^^ (1#26 <<< 1) ^^^ (1#26 <<< 9) ^^^ (1#26 <<< 18)) = .uncorrectable := by decide +kernel

/-- Chapter 8, "the curve": the four outputs. -/
theorem test_curve_example :
    [100, 1300, 2048, 4095].map (curveOutput
      ([0, 300, 900, 1500, 2100, 2700, 3300, 3800, 4095].map (fun v => ({ value := v, loaded := true } : CurvePoint)))) =
      [58, 1223, 2100, 4094] := by decide

/-- Chapter 8's refused load: 3300 at point 6 above 2000 at point 7. -/
theorem test_curve_decreases :
    curveDecreases ([0, 300, 900, 1500, 2100, 2700, 3300, 2000, 4095].map (fun v => ⟨v, true⟩)) = true := by decide

def entry (c : Nat) (state : EntryState) : FrameEntry :=
  { contact := c, state := state, touch := .finger, held := false, x := 0, y := 0, area := 1, peak := 1 }

def report (entries : List FrameEntry) : FrameReport :=
  { surface := .pad, switchClosed := false, merged := 1, entries := entries }

/-- Chapter 10, "a host that falls behind": MOVE 12 and UP 13 over MOVE 12 and MOVE 13, then DOWN 14; DOWN with UP does not
merge. -/
theorem test_merge_example :
    (mergeFrameReport (report [entry 12 .move, entry 13 .move]) (report [entry 12 .move, entry 13 .up])).bind
        (fun r => mergeFrameReport r (report [entry 12 .move, entry 14 .down])) =
        some { report [entry 12 .move, entry 13 .up, entry 14 .down] with merged := 3 } ∧
      mergeFrameReport (report [entry 15 .down]) (report [entry 15 .up]) = none := by decide +kernel

/-- Chapter 9, "a two-finger scroll": the scaled spreads and their difference. -/
theorem test_scaled_spread_example :
    (scaledSpread { reporting4 with lx := 4095, ly := 2047 } { geometry4 with driveLines := 16, senseLines := 24 } 110,
      scaledSpread { reporting4 with lx := 4095, ly := 2047 } { geometry4 with driveLines := 16, senseLines := 24 } 111)
      = (293, 296) := by decide

/-- Chapter 11, "SOFT_RESET with work queued": ABORTED, then OK, with the START left and the budget at 3. -/
theorem test_soft_reset_example :
    let s := ran .softReset { crowded 30 (board .running) with
      buffer := [request 14 [], request 2 [1]],
      pendingCapture := some { tag := 5, surface := .panel, kind := .delta } }
    (s.queue.map (fun r => (r.sequence, r.body)), s.budget, s.panel.status, s.panel.geometryReady) =
      ([(5, .response 11 .aborted []), (9, .response 14 .ok [])], 3, .stopped, true) := by decide +kernel

/-- The START behind it finds every item ready. -/
theorem test_start_after_soft_reset :
    (ran .start (ran .softReset { board .running with buffer := [request 14 [], request 2 [1]] })).panel.status =
      .acquiring := by decide +kernel

/-! ## What the commands do -/

theorem test_power_on_to_running_part :
    let s := ran (.startUp { refsel := 3, panelEn := false, linkPhase := true }) (ran (.hardwareReset .powerOn) part)
    (s.started, s.cyclesPerTick, s.present .panel, s.resetCause) = (true, 26000, false, .powerOn) := by decide +kernel

theorem test_tick_wraps : (ran .timeBaseTick { part with time := 0xFFFFFFFF, guard := some 1 }).time = 0 := by
  decide +kernel

/-- IMAGE 7 arrives on an idle link: it is put in flight at once, and 8 is expected. -/
theorem test_image_arrives :
    let h := header 1 32
    let s := ran (.scanPacket .pad (zeros 32) (sealed h (zeros 32))) (receiving .pad h (board .acquiring))
    (s.pad.imageFlight.isSome, s.pad.imageSlot, s.pad.expectedImage) = (true, none, some 8) := by decide +kernel

/-- R187: a CRC whose most significant byte came first is wrong. -/
theorem test_crc_bytes_in_order :
    let h := header 1 32
    let crc := sealed h (zeros 32)
    let s := ran (.scanPacket .pad (zeros 32) (crc.2, crc.1)) (receiving .pad h (board .acquiring))
    crc.1 ≠ crc.2 ∧ (s.pad.imageFlight, s.pad.counters.crcErrors) = (none, 1) := by decide +kernel

/-- R25: a REBASE at the head with no IMAGE frame to wait for holds none, and the frame is put in flight; one that waits
holds the next frame until it is executed. -/
theorem test_only_a_waiting_request_holds :
    let h := header 1 32
    let s := ran (.scanPacket .pad (zeros 32) (sealed h (zeros 32)))
      (receiving .pad h (headed (request 4 [0]) (board .acquiring)))
    let t := ran (.scanPacket .pad (zeros 32) (sealed h (zeros 32))) (receiving .pad h s)
    let u := ran (.baselineStage .pad) t
    (s.pad.imageFlight.isSome, t.pad.imageSlot.isSome) = (true, true) ∧
      (u.pad.imageFlight, u.pad.imageSlot.isSome) = (none, true) ∧
      (ran .rebase u).pad.imageFlight.isSome = true := by decide +kernel

/-- Chapter 2, "a PANEL link under load": PEN 203 over a waiting 201 with 202 expected. -/
theorem test_pen_replaces_a_waiting_frame :
    let h := { header 2 16 with sequence := 203 }
    let s := ran (.scanPacket .panel (zeros 16) (sealed h (zeros 16)))
      (receiving .panel h (onPanel (board .running) (fun v =>
        { v with expectedPen := some 202, penSlot := some { penFrame [] none with sequence := 201 },
                 penFlight := some (penFrame [] none) })))
    (s.panel.penSlot.map (fun f => (f.sequence, f.elapsed)), s.panel.counters.seqGaps, s.panel.counters.overruns,
      s.fault.map (fun f => (f.kind, f.sequence, f.detail))) =
      (some (203, 3), 1, 1, some (.scanOverrun, 203, 201)) := by decide +kernel

theorem test_timeout_stalls_and_raises :
    let s := ran (.frameTimeout .pad) (onPad (board .running) (fun v => { v with timer := some 0, lastGood := 6 }))
    (s.pad.status, s.pad.counters.timeouts, s.fault.map (fun f => (f.kind, f.sequence, f.detail)), s.attn) =
      (.stalled, 1, some (.scanTimeout, 6, 50), true) := by decide +kernel

/-- A touch from its image to its slot: TENTATIVE at the node's centre. -/
theorem test_touch_reaches_its_slot :
    let s := ran (.trackingStep { surface := .pad }) (ran (.regionStage .pad) (ran (.baselineStage .pad)
      (onPad (board .running) (fun v => { v with
        imageFlight := some { frame := frame ((level 1000).set 5 1500), progress := .taken } }))))
    s.slots.head?.map (fun k => (k.state, k.x, k.y, k.peak)) = some (.tentative, 96, 96, 500) := by decide +kernel

theorem test_unknown_request_is_echoed :
    (ran .unknownRequest (headed (request 0x63 [1]) part)).queue.map (·.body) =
      [.response 0x63 .unknownRequest []] := by decide +kernel

/-- The bytes of a TAKE of DESCRIBE's response: the header, then the record of 25 bytes. -/
theorem test_take_sends_the_description :
    ((ran .take (ran .describe (headed (request 1 []) part))).transaction.map (·.out)) =
      some ([1, 1, 0, 1, 10, 25] ++ [10, 25, 9, 0, 0, 1, 0, 17] ++
        [0xC0, 8, 1, 3, 0, 0, 16, 64, 59, 4, 24, 16, 8, 16, 128, 0, 12]) := by decide +kernel

theorem test_status_clears_the_cause :
    (ran (.transactionRelease 6) (ran .status part)).resetCause = .none ∧
      (ran (.transactionRelease 5) (ran .status part)).resetCause = .powerOn := by decide +kernel

theorem test_put_then_unknown_kind :
    (ran (.put (downstream 1 9 4 [2])) part).buffer = [{ code := 9, tag := 4, payload := [2] }] ∧
      (ran (.put (downstream 3 9 4 [2])) part).packetError = true := by decide +kernel

theorem test_relay_is_sent_and_ends :
    let s := ran .relay (headed (request 13 [0, 0xAA]) part)
    (s.pad.relay, (ran (.relayTransmitComplete .pad) s).pad.relay) = (some [0xAA], none) := by decide +kernel

/-- A class entry with crossed bounds: BAD_VALUE, and nothing of the request is written (R70). -/
theorem test_crossed_entry_writes_nothing :
    let good := classEntry 1 8 80 0 65535 0 65535 65535 .any .palm
    let s := ran .loadTable (headed (request 5 ([1, 0, 3] ++ good.bytes ++ { good with peakMin := 90, peakMax := 60 }.bytes))
      part)
    (s.pad.classTable == part.pad.classTable, s.queue.map (·.body)) = (true, [.response 5 .badValue []]) := by
  decide +kernel

/-! ## Witnesses: states and operands that meet the hypotheses of each statement, clause by clause -/

theorem witness_StepRunsTheFrontCommand :
    { part with pending := [.take, .penStage] }.pending = .take :: [.penStage] ∧ part.pending = [] := by decide

theorem witness_ClockAndStrapsHaveTheirOwners :
    (∀ source, Instr.timeBaseTick ≠ .hardwareReset source) ∧ (∀ straps, Instr.take ≠ .startUp straps) ∧
      Instr.take ≠ .timeBaseTick := by
  refine ⟨?_, ?_, ?_⟩ <;> simp

theorem witness_ResetsLeaveSoundStates :
    State.reset.started = false ∧
      exec (.hardwareReset .resetPin) part = .next (part.hardwareReset .resetPin) ∧
      exec (.startUp part.straps) State.reset = .next (State.reset.startUp part.straps) := ⟨rfl, rfl, rfl⟩

/-- The state the invariants' witnesses step from: a running board with a tick waiting. -/
def ticking : State := { board .running with pending := [.timeBaseTick] }

theorem witness_QueueStaysBounded :
    (ticking.QueueBounded ∧ ∃ t, step ticking = .next t) ∧
      ((crowded 59 ticking).QueueBounded ∧ ∃ t, step (crowded 59 ticking) = .next t) :=
  ⟨⟨by decide +kernel, _, rfl⟩, by decide +kernel, _, rfl⟩

theorem witness_TimersAndFramersFollowTheirStates :
    (ticking.Timed ∧ ∃ t, step ticking = .next t) ∧
      ((receiving .pad (header 1 8064) ticking).FramerSound ∧
        ∃ t, step (receiving .pad (header 1 8064) ticking) = .next t) :=
  ⟨⟨by decide +kernel, _, rfl⟩, by decide +kernel, _, rfl⟩

theorem witness_BaselineValidMarkIsTrue : ticking.BaselineSound ∧ ∃ t, step ticking = .next t :=
  ⟨by decide +kernel, _, rfl⟩

/-- A tracked contact, and the next ID about to wrap. -/
def touched : State :=
  { ticking with slots := tracked .active .pad :: List.replicate 15 .cleared, nextContact := 255 }

theorem witness_ContactTableStaysSound : touched.ContactsSound ∧ ∃ t, step touched = .next t :=
  ⟨by decide +kernel, _, rfl⟩

/-- A drag is committed. -/
def dragging : State :=
  { ticking with gesture := { Gesture.atReset with
      state := .committed, committed := some { kind := .drag, code := 1, x := 0, y := 0, spread := 0 } } }

theorem witness_CommittedGestureMatchesEngine : dragging.GestureSound ∧ ∃ t, step dragging = .next t :=
  ⟨by decide +kernel, _, rfl⟩

theorem witness_ResetThenStartUpSamplesTheStraps : State.reset.started = false := rfl

theorem witness_TickCountsOneMillisecond : { part with time := 0xFFFFFFFF }.started = true := rfl

theorem witness_SoftResetKeepsTheConfiguration :
    { headed (request 14 []) part with pendingCapture := some { tag := 1, surface := .pad, kind := .raw } }.AtHead
        (request 14 []) 14 ∧
      (headed (request 14 []) part).AtHead (request 14 []) 14 := by decide +kernel

theorem witness_FullResetLeavesOneResponse : (headed (request 15 []) part).AtHead (request 15 []) 15 := by
  decide +kernel

/-- The framer has seen the delimiter. -/
def inHeader (i : SurfaceId) (s : State) : State := s.withSurface i { s.surface i with framer := .header }

theorem witness_FramerFollowsItsPacket :
    (part.surface .pad).framer = .hunting ∧ ((inHeader .pad part).surface .pad).framer = .header ∧
      (header 1 8064).payloadCount.toNat ≤ 8064 ∧
      ((receiving .pad (header 1 2) part).surface .pad).framer = .payload (header 1 2) ∧
      (zeros 2).length = (header 1 2).payloadCount.toNat ∧
      ((receiving .pad (header 2 0) part).surface .pad).status = .stopped ∧
      (receiving .pad (header 3 1) State.reset).started = false ∧
      (receiving .panel (header 3 1) padOnly).present .panel = false := by decide +kernel

theorem witness_AbandonedPacketsAreCounted :
    ((inHeader .pad (board .running)).surface .pad).framer = .header ∧ 8064 < (header 1 8065).payloadCount.toNat ∧
      ((board .running).started = true ∧ (board .running).present .pad = true ∧
        ((board .running).surface .pad).status ≠ .stopped) ∧
      (((board .stopped).surface .pad).status = .stopped ∧ (header 3 8065).kind ≠ 1 ∧ (header 3 8065).kind ≠ 2) ∧
      (((board .stopped).surface .pad).status = .stopped ∧ (header 1 8065).kind = 1) ∧
      ((receiving .pad (header 1 2) (board .running)).surface .pad).framer = .payload (header 1 2) ∧
      State.reset.started = false := by decide +kernel

/-- A board that is running and has just received this packet. -/
def examined (i : SurfaceId) (h : ScanHeader) : State := receiving i h (board .running)

theorem witness_FailedPacketsAreCounted :
    ((examined .pad (header 1 32)).Examined .pad (header 1 32) (zeros 32) ∧
        crc16 (headerBytes (header 1 32) ++ zeros 32) ≠ receivedCrc (0, 0)) ∧
      (examined .pad (header 4 1)).Examined .pad (header 4 1) (zeros 1) ∧
      (examined .pad (header 2 16)).Examined .pad (header 2 16) (zeros 16) ∧
      ((examined .pad { header 1 32 with driveCount := 5 }).Examined .pad { header 1 32 with driveCount := 5 } (zeros 32) ∧
        ({ header 1 32 with driveCount := 5 } : ScanHeader).driveCount.toNat ≠ geometry4.driveChannels) ∧
      ((examined .pad { header 1 32 with format := 1 }).Examined .pad { header 1 32 with format := 1 } (zeros 32) ∧
        ({ header 1 32 with format := 1 } : ScanHeader).format.toNat ≠ 0) ∧
      ((examined .pad (header 1 31)).Examined .pad (header 1 31) (zeros 31) ∧ Agrees (header 1 31) geometry4 ∧
        31 ≠ payloadOf .s16 16) ∧
      ((examined .panel (withFlags 2 (header 2 16))).Examined .panel (withFlags 2 (header 2 16)) (zeros 16) ∧
        16 ≠ payloadOf .s16 8 + 4) ∧
      (examined .pad (header 3 0)).Examined .pad (header 3 0) [] ∧
      (examined .pad (header 3 65)).Examined .pad (header 3 65) (zeros 65) := by
  and_intros <;> decide +kernel

theorem witness_GoodReplyBecomesRelayRecord :
    ((examined .pad (header 3 64)).Completes .pad (header 3 64) (zeros 64) ∧ (header 3 64).kind = 3 ∧
        (examined .pad (header 3 64)).generalCount < 59) ∧
      ((crowded 58 (examined .pad (header 3 1))).Completes .pad (header 3 1) (zeros 1) ∧
        (crowded 58 (examined .pad (header 3 1))).generalCount = 58) ∧
      ((crowded 59 (examined .pad (header 3 1))).Completes .pad (header 3 1) (zeros 1) ∧
        ¬ ((crowded 59 (examined .pad (header 3 1))).generalCount < 59)) ∧
      ((examined .pad (header 3 65)).Completes .pad (header 3 65) (zeros 65) ∧ ¬ ((zeros 65).length ≤ 64)) := by
  decide +kernel

theorem witness_GoodImageReachesItsSlot :
    let crc := sealed (header 1 32) (zeros 32)
    ((examined .pad (header 1 32)).GoodImage .pad (header 1 32) (zeros 32) crc ∧
        ((examined .pad (header 1 32)).surface .pad).imageSlot = none) ∧
      ((receiving .pad (header 1 32) (onPad (board .running) (fun v => { v with imageSlot := some (frame []) }))).GoodImage
          .pad (header 1 32) (zeros 32) crc) ∧
      (receiving .panel (header 1 32) (board .stalled)).GoodImage .panel (header 1 32) (zeros 32) crc := by
  decide +kernel

theorem witness_GoodPenFrameReachesItsSlot :
    let h := withFlags 2 (header 2 20)
    let crc := sealed h (zeros 20)
    (receiving .panel h (board .stalled)).GoodPen h (zeros 20) crc ∧
      ((examined .panel h).GoodPen h (zeros 20) crc ∧ (examined .panel h).panel.penSlot = none) ∧
      (receiving .panel h (onPanel (board .running) (fun v => { v with penSlot := some (penFrame [] none) }))).GoodPen h
        (zeros 20) crc := by decide +kernel

theorem witness_UnpackingReadsEverySample :
    (∀ x ∈ [(-32768 : Int), 0, 32767], -32768 ≤ x ∧ x ≤ 32767) ∧ (∀ x ∈ [0, 4095, 7], x < 4096) := by decide

theorem witness_FrameTimeoutStallsTheSurface :
    (board .running).started = true ∧
      ((onPad (board .running) (fun v => { v with timer := some 0 })).surface .pad).timer = some 0 ∧
      ((onPad (board .running) (fun v => { v with timer := some 1 })).surface .pad).timer ≠ some 0 ∧
      (part.surface .pad).timer ≠ some 0 := by decide +kernel

theorem witness_SurfaceEndLeavesNothingTracked :
    let s := { board .running with
      slots := tracked .held .pad :: tracked .active .panel :: List.replicate 14 .cleared,
      pendingCapture := some { tag := 1, surface := .pad, kind := .raw } }
    s.pendingCapture = some { tag := 1, surface := .pad, kind := .raw } ∧ SurfaceId.panel ≠ .pad ∧
      s.slots[1]? = some (tracked .active .panel) ∧ (tracked .active .panel).surface ≠ .pad ∧
      tracked .active .panel ∈ (s.endSurface .pad .stopped).slots ∧ (board .running).pendingCapture = none := by
  decide +kernel

def told (k : Slot) : Slot := { k with announced := true }

def closing0 : Closing := { kind := .up, x := 1, y := 2, touch := .finger, area := 1, peak := 500, held := false }

/-- A slot for each row of R106's table. -/
theorem witness_slots_of_a_surface_end :
    [told (tracked .active .pad), told { tracked .held .pad with closing := some closing0 }, tracked .active .pad,
      tracked .tentative .pad, told { tracked .suppressed .pad with closing := some closing0 }, tracked .suppressed .pad,
      { tracked .ending .pad with closing := some closing0 }].map (fun k =>
        (k.endEffect.state, k.endEffect.closing.map (·.kind))) =
      [(.ending, some .cancel), (.ending, some .up), (.free, none), (.free, none), (.ending, some .up), (.free, none),
        (.ending, some .up)] := by decide +kernel

/-- An announced contact ends over a queue with room and over a full one; a drag ends with and without a clear PAD; a pen
in range ends in an unmasked and in a masked posture. -/
theorem witness_records_of_a_surface_end :
    let s := { dragging with slots :=
      [{ told (tracked .ending .pad) with closing := some { closing0 with kind := .cancel } }] }
    let entries := (entriesOf .pad s.pad.reporting s.pad.geometry s.slots).filter
      (fun e => e.state == .up || e.state == .cancel)
    let body := Body.frameReport { surface := .pad, switchClosed := false, merged := 1, entries := entries }
    (entries ≠ [] ∧ (s.offer 0 0 body).1 = .appended ∧ ((crowded 59 s).offer 0 0 body).1 = .deferred) ∧
      (s.gesture.state = .committed ∧ (∀ k ∈ s.slots, k.surface = .pad → k.state = .free ∨ k.state = .ending)) ∧
      (¬ ∀ k ∈ touched.slots, k.surface = .pad → k.state = .free ∨ k.state = .ending) ∧
      ({ s.pen with state := .hover }.state ≠ .outOfRange ∧ s.pen.state = .outOfRange ∧
        s.panel.reporting.mask.getLsbD (codeIn postureOrder s.posture) = true) := by decide +kernel

/-- An IMAGE frame of PAD has been taken. -/
def taken (status : SurfaceState) (samples : List Int) (f : Surface → Surface) : State :=
  onPad (board status) (fun v => f { v with imageFlight := some { frame := frame samples, progress := .taken } })

theorem witness_AcquisitionFramesFormTheBaseline :
    let s := taken .acquiring (level 1000) (fun v => { v with collected := 1 })
    s.started = true ∧ (s.surface .pad).imageFlight = some { frame := frame (level 1000), progress := .taken } ∧
      (s.surface .pad).status = .acquiring ∧
      ((s.surface .pad).collected + 1 = (s.surface .pad).detection.acquireFrames) ∧
      (0 + 1 < (s.surface .pad).detection.acquireFrames) := by decide +kernel

/-- No capture, one of another surface or kind, and one that is served. -/
theorem witness_captures_served :
    let c : PendingCapture := { tag := 1, surface := .pad, kind := .raw }
    (board .running).pendingCapture = none ∧ { board .running with pendingCapture := some c }.pendingCapture = some c ∧
      (c.surface ≠ .panel ∧ c.kind ≠ .delta) ∧ (c.surface = .pad ∧ c.kind = .raw) := by decide +kernel

/-- The state's frame is anomalous. -/
abbrev Anomalous (v : Surface) (samples : List Int) : Prop :=
  ∃ x ∈ v.liveDeltas (v.delta (v.mapImage samples)), x ≤ -(v.detection.negativeThreshold : Int)

theorem witness_RunningFramesHandOnTheirDelta :
    let s := taken .running (level 1000) (fun v => { v with driftCounter := 2 })
    let s' := taken .running (level 1003) (fun v => { v with driftCounter := 3 })
    let s'' := taken .running (level 920) (fun v => { v with anomalyCount := 1 })
    (s.started = true ∧ (s.surface .pad).status = .running ∧ ¬ Anomalous s.pad (level 1000) ∧
        s.pad.driftCounter + 1 < s.pad.detection.driftInterval) ∧
      (s'.pad.detection.driftInterval ≤ s'.pad.driftCounter + 1 ∧ ∀ k ∈ s'.slots, k.state = .free) ∧
      (∃ k ∈ { s' with slots := [tracked .suppressed .pad] }.slots, k.surface = .pad ∧ k.state = .suppressed) ∧
      (Anomalous s''.pad (level 920) ∧ ¬ Anomalous s''.pad (level 921) ∧
        ¬ (s''.pad.detection.anomalyFrames ≤ s''.pad.anomalyCount + 1)) := by decide +kernel

theorem witness_AutomaticRebaseRestartsAcquisition :
    let s := taken .running (level 920) (fun v => { v with anomalyCount := 2 })
    let masked := { s with queueBlock := { s.queueBlock with captureMask := 0xFFF } }
    (s.surface .pad).imageFlight = some { frame := frame (level 920), progress := .taken } ∧
      (s.surface .pad).status = .running ∧ Anomalous s.pad (level 920) ∧
      s.pad.detection.anomalyFrames ≤ s.pad.anomalyCount + 1 ∧ SurfaceId.panel ≠ .pad ∧
      (masked.fault = none ∧ masked.queueBlock.captureMask.getLsbD 5 = true) ∧
      (∀ i ∈ [SurfaceId.pad, .panel],
        { s with pendingCapture := some { tag := 1, surface := i, kind := .delta } }.pendingCapture =
          some { tag := 1, surface := i, kind := .delta }) := by decide +kernel

/-- R11, R160: with no place free, the END of the rebase is deferred, and again at the frame's completion. -/
theorem test_rebase_retries_its_end :
    let s := { crowded 59 (taken .running (level 920) (fun v => { v with anomalyCount := 2 })) with
      gesture := dragging.gesture }
    let t := ran (.baselineStage .pad) s
    (t.pad.status, t.gesture.pendingEnd.map (·.reason), t.deferredCount) = (.acquiring, some .cancelled, 2) := by
  decide +kernel

theorem witness_DeltaAndDriftAtEveryNode :
    let v := surface4 .running
    let dead := { v with lineMap := v.lineMap.set 1 ⟨some 1, true⟩ }
    (nodeAt (List.replicate 4 (level 4095)) 3 3 = some 4095 ∧ nodeAt v.baseline 3 3 = some 1000 ∧
        v.geometry.polarity = .positive) ∧
      nodeAt { v with baseline := [[-5000]] }.baseline 0 0 = some (-5000) ∧
      (nodeAt [[59]] 0 0 = some 59 ∧ (59 : Int).natAbs < v.detection.touchThreshold ∧
        v.detection.touchThreshold ≤ (-60 : Int).natAbs) ∧
      1 ∈ dead.deadDrive ∧ 0 ∉ dead.deadDrive ∧ 0 ∉ dead.deadSense := by decide +kernel

theorem witness_SensorLinesTakeTheirValues :
    let v := surface4 .running
    v.mapConflict = false ∧ 3 < v.geometry.driveLines ∧ (⟨some 3, false⟩ : LineEntry) ∈ v.driveEntries ∧
      ((upTo 16).length = v.geometry.driveChannels * v.geometry.senseChannels ∧
        v.driveEntries[2]? = some ⟨some 2, false⟩ ∧ v.senseEntries[3]? = some ⟨some 3, false⟩ ∧
        nodeAt (v.mapImage ((upTo 16).map (fun n => (n : Int)))) 2 3 = some 11) ∧
      ((upTo 8).length = v.geometry.senseChannels + v.geometry.driveChannels ∧
        v.driveProfile ((upTo 8).map (fun n => (n : Int))) = [4, 5, 6, 7]) ∧
      (v.baseline.length = v.geometry.driveLines ∧ ∀ row ∈ v.baseline, row.length = v.geometry.senseLines) := by
  decide +kernel

/-- A pass over dead lines at each place: first with and without a live neighbour above, between two, behind another dead
line, and last. -/
theorem witness_lines_substituted :
    [0, 2, 4, 5].Pairwise (· < ·) ∧ substitutePass average 0 [0, 2, 4, 5] [9, 1, 9, 4, 9, 9] = [1, 1, 3, 4, 4, 4] ∧
      substitutePass average 0 [0, 1, 3] [9, 9, 8, 9] = [0, 4, 8, 8] := by decide +kernel

/-- R31: each of the three conflicts alone, and each limit of dead lines met and passed, one of them under a conflict. -/
theorem witness_coverage_tests :
    let fitted := fun (xs : List (Nat × Bool)) => xs.map (fun x => ({ line := some x.1, dead := x.2 } : LineEntry))
    let onDrive := fun (entries : List LineEntry) (drive : Nat) =>
      let v := surface4 .stopped
      let w : Surface := { v with
        geometry := { v.geometry with driveChannels := entries.length, driveLines := drive }
        lineMap := entries ++ v.lineMap.drop entries.length }
      (w.mapConflict, w.deadLimit, w.deadDrive)
    let five := [(0, true), (1, true), (2, true), (3, true), (4, true)]
    [onDrive (fitted [(0, false), (1, false), (2, false), (3, false)]) 4,
      onDrive (fitted [(0, false), (1, false), (2, false), (3, false), (4, true)]) 4,
      onDrive (fitted [(0, false), (1, false), (2, false), (3, false), (3, true)]) 4,
      onDrive (fitted [(0, false), (1, false), (2, false)]) 4, onDrive (fitted five) 5,
      onDrive (fitted (five.take 4 ++ [(4, false)])) 5, onDrive (fitted (five ++ [(4, true)])) 5] =
      [(false, false, []), (true, false, []), (true, false, [3]), (true, false, []), (false, true, [0, 1, 2, 3, 4]),
        (false, false, [0, 1, 2, 3]), (true, true, [0, 1, 2, 3, 4])] := by decide +kernel

/-- R39: the lowest value of an image stands on a dead line and is no live delta. -/
theorem witness_live_deltas :
    let v := surface4 .running
    let w : Surface := { v with lineMap := v.lineMap.set 3 ⟨some 3, true⟩ }
    let image := [level 0, level 0, level 1, level (-5000)].map (·.take 4)
    (nodeAt image 3 3 = some (-5000) ∧ nodeAt image 2 3 = some 1) ∧ 3 ∈ w.deadDrive ∧
      w.liveDeltas image = List.replicate 8 0 ++ List.replicate 4 1 := by decide +kernel

/-- Nodes on every second line, so many of them; none touches another. -/
def scattered (n : Nat) : Image :=
  (upTo 12).map (fun d => (upTo 12).map (fun k =>
    if d % 2 == 0 && k % 2 == 0 && d / 2 * 6 + k / 2 < n then (100 : Int) else 0))

/-- The delta image of PAD's frame has been handed on. -/
def baselined (delta : Image) : State :=
  onPad (board .running) (fun v =>
    { v with imageFlight := some { frame := frame [], progress := .baselined delta update0 } })

theorem witness_RegionStageMeasuresAtMostTwentyFour :
    ((baselined (scattered 24)).started = true ∧
        ((baselined (scattered 24)).surface .pad).imageFlight =
          some { frame := frame [], progress := .baselined (scattered 24) update0 }) ∧
      (components 60 (scattered 24)).length ≤ 24 ∧ (components 60 (scattered 25)).length = 25 := by decide +kernel

theorem witness_ComponentsAreTheConnectedOnNodes :
    [⟨0, 4, 70⟩, ⟨1, 5, 70⟩] ∈ components 60 chapter4 ∧ (⟨0, 4, 70⟩ : Node) ∈ onNodes 60 chapter4 ∧
      (components 60 chapter4).length = 4 := by decide +kernel

theorem witness_LowestMatchingEntryNamesTheClass :
    (∀ e ∈ chapter5, e.accepts (shape 2 70 2 2 70 true) = false) ∧
      chapter5[4]? = some (classEntry 1 8 80 0 65535 0 65535 65535 .any .finger) ∧
      (classEntry 1 8 80 0 65535 0 65535 65535 .any .finger).accepts (shape 3 90 3 2 76 false) = true ∧
      (∀ e ∈ chapter5.take 4, e.accepts (shape 3 90 3 2 76 false) = false) := by decide +kernel

/-- R16, R109: a POSTURE notice to a masked posture before the step, after its rejection stage, after its gesture stage,
and one of no posture, which is counted: what becomes of a contact, of its committed drag and of the records. -/
theorem test_posture_meets_a_tracking_step :
    let tent : PostureNotice := ⟨0, [2]⟩
    let s := { onPad (board .running) (fun v => { v with
        reporting := { v.reporting with mask := 1 }
        imageFlight := some { frame := frame [], progress := .extracted [regionAt 100 100] update0 } }) with
      slots := told (tracked .active .pad) :: List.replicate 15 .cleared
      gesture := { Gesture.atReset with
        state := .committed, members := [(0, 1)], hold := 1
        committed := some { kind := .drag, code := 1, x := 90, y := 100, spread := 0 } } }
    let after := fun (s : State) (run : TrackingRun) =>
      let t := ran (.trackingStep run) s
      (t.slots.head?.map (·.state), t.gesture.state, t.queue.map (·.body.kindCode), t.posture, t.packetCrcCount)
    [after s { surface := .pad }, after (ran (.posture 0 [2]) s) { surface := .pad },
        after s { surface := .pad, afterRejection := [tent] }, after s { surface := .pad, afterGestures := [tent] },
        after s { surface := .pad, afterRejection := [tent], afterGestures := [⟨0, [0]⟩] },
        after s { surface := .pad, afterRejection := [⟨0, [5]⟩] }] =
      [(some .active, .committed, [1, 4], .laptop, 0), (some .suppressed, .blocked, [1, 5], .tent, 0),
        (some .active, .blocked, [5], .tent, 0), (some .active, .committed, [4], .tent, 0),
        (some .active, .blocked, [1, 5], .laptop, 0), (some .active, .committed, [11, 1, 4], .laptop, 1)] := by
  decide +kernel

theorem witness_TrackingStepCompletesTheFrame :
    let s := fun i : SurfaceId => (board .running).withSurface i { (board .running).surface i with
      imageFlight := some { frame := frame [], progress := .extracted [regionAt 96 96] update0 } }
    ∀ i ∈ [SurfaceId.pad, .panel], (s i).started = true ∧
      ((s i).surface i).imageFlight = some { frame := frame [], progress := .extracted [regionAt 96 96] update0 } := by
  decide +kernel

/-- A report with an entry, one with a new switch state alone, and none; placed and deferred. -/
theorem witness_reports_of_a_tracking_step :
    let s := { board .running with slots := tracked .active .pad :: List.replicate 15 .cleared }
    let body := Body.frameReport { surface := .pad, switchClosed := false, merged := 1,
                                   entries := entriesOf .pad s.pad.reporting s.pad.geometry s.slots }
    (entriesOf .pad s.pad.reporting s.pad.geometry s.slots).map (·.state) = [.down] ∧
      entriesOf .pad part.pad.reporting part.pad.geometry part.slots = [] ∧
      ((board .running).pad.reporting.mask.getLsbD (codeIn postureOrder (board .running).posture) = true ∧
        ({ frame [] with switchClosed := true } : ImageFrame).switchClosed ≠ (board .running).switchReported) ∧
      ((s.offer 7 0 body).1 = .appended ∧ ((crowded 59 s).offer 7 0 body).1 = .deferred) := by decide +kernel

/-- Each kind of entry for a contact of the table, and an entry for no contact of it. -/
theorem witness_entries_placed :
    [entry 1 .down, entry 1 .move, entry 1 .up, entry 1 .cancel].map (fun e =>
        ((tracked .active .pad).placed [entry 2 .move, e]).closed) = [false, false, true, true] ∧
      ((tracked .ending .pad).placed [entry 1 .up]).state = .free ∧
      (∀ e ∈ [entry 2 .up], e.contact ≠ (tracked .active .pad).contact) := by decide +kernel

/-- A slot for each row of the updates: paired out of HELD and out of SUPPRESSED, and unpaired in each state, at and past
coast_frames, with each of the closings. -/
theorem witness_updates_of_a_tracking_step :
    let lone := fun (k : Slot) => ((trackRegions .pad geometry4 detection4 1 [] [k] 1).slots.map
      (fun k => (k.state, k.closing.map (·.kind))))
    let paired := fun (k : Slot) => ((trackRegions .pad geometry4 detection4 9 [regionAt 96 96] [k] 1).slots.map
      (fun k => (k.state, k.x, k.vx)))
    let late := fun (k : Slot) => { k with missing := 1 }
    [tracked .held .pad, tracked .suppressed .pad].map paired = [[(.active, 96, 0)], [(.suppressed, 96, 0)]] ∧
      [tracked .tentative .pad, tracked .active .pad, late (tracked .held .pad), told (late (tracked .held .pad)),
          told { late (tracked .held .pad) with mark := true }, { late (tracked .held .pad) with closing := some closing0 },
          tracked .suppressed .pad, { tracked .suppressed .pad with closing := some closing0 },
          tracked .active .panel].map lone =
        [[(.free, none)], [(.held, none)], [(.free, none)], [(.ending, some .up)], [(.ending, some .cancel)],
          [(.ending, some .up)], [(.free, none)], [(.ending, some .up)], [(.active, none)]] := by decide +kernel

/-- A region with room, whose ID 255 is passed over and wraps; a table without a FREE slot; a surface at its limit. -/
theorem witness_admissions_of_a_tracking_step :
    let room : Admission := { slots := { tracked .ending .panel with contact := 255 } :: List.replicate 15 .cleared,
                              nextContact := 255, refused := 0 }
    let full : Admission := { room with slots := List.replicate 16 (tracked .active .panel) }
    ((Admission.region .pad 1 room (regionAt 96 96)).slots.map (·.contact)).take 2 = [255, 1] ∧
      (Admission.region .pad 1 room (regionAt 96 96)).nextContact = 2 ∧
      (room.slots.length = 16 ∧ room.slots[1]? = some .cleared ∧ Slot.cleared.state = .free) ∧
      (Admission.region .pad 16 full (regionAt 96 96)).refused = 1 ∧
      (Admission.region .panel 1 room (regionAt 96 96)).refused = 1 := by decide +kernel

/-- A slot for each kind of entry, and the slots that yield none. -/
theorem witness_entries_derived :
    [tracked .active .pad, told (tracked .held .pad), { tracked .ending .pad with closing := some closing0 },
        { tracked .suppressed .pad with closing := some { closing0 with kind := .cancel } }, tracked .tentative .pad,
        { tracked .active .pad with closed := true }, { tracked .held .pad with mark := true }].map
      (fun k => (k.entry reporting4 geometry4).map (fun e => (e.state, e.held))) =
      [some (.down, false), some (.move, true), some (.up, false), some (.cancel, false), none, none, none] := by
  decide +kernel

/-- An END placed and one deferred, retried and fresh; a BEGIN placed and one dropped. -/
theorem witness_events_of_a_tracking_step :
    let e : PendingEnd := { number := 3, reason := .normal, sequence := 6, timestamp := 5 }
    let b : GestureBegin := { number := 4, kind := .drag, code := 1, fingers := 2, direction := .up, x := 0, y := 0,
                              merged := 1 }
    let due := { dragging with gesture := { dragging.gesture with pendingEnd := some e } }
    let ended := fun (s : State) => (s.offerEvents 7 0 [.ended 3 .normal]).gesture.pendingEnd.map (·.sequence)
    let began := fun (s : State) =>
      ((s.offerEvents 7 0 [.began b]).gesture.state, (s.offerEvents 7 0 [.began b]).gesture.committed)
    (due.retryEnd.gesture.pendingEnd = none ∧ (crowded 59 due).retryEnd.gesture.pendingEnd = some e ∧
        dragging.gesture.pendingEnd = none) ∧
      (ended dragging = none ∧ ended (crowded 59 dragging) = some 7) ∧
      (began dragging = (.committed, dragging.gesture.committed) ∧ began (crowded 59 dragging) = (.blocked, none)) := by
  decide +kernel

theorem witness_PairingTakesTheNearestFirst :
    pairing .pad { geometry4 with driveLines := 16, senseLines := 24 } 160 2 chapter6Slots
        [regionAt 600 404, regionAt 440 440, regionAt 1200 900] =
      [{ dist := 34, slot := 6, region := 0 }, { dist := 132, slot := 2, region := 1 }] := by decide +kernel

/-- A slot of 100, 100 in its second frame. -/
def fresh (i : SurfaceId) : Slot := { tracked .tentative i with age := 2, firstX := 100, firstY := 100 }

/-- The inputs of a surface whose lowest zone covers it all in the policy, with the pen at 100, 100. -/
def ruled (i : SurfaceId) (policy : ZonePolicy) (penMode : PenMode) : RejectionInputs :=
  { (board .running).rejectionInputs i with
    zones := [ZoneEntry.atReset, zone 0 4095 0 4095 policy .openZone, zone 0 4095 0 4095 .openZone .openZone]
    pad := { guardTime := 0, hesitantTravel := 10, hesitantFrames := 3 }
    panel := { PanelRejection.atReset with penMode := penMode, ahead := 10 }, penCentre := some (100, 100) }

/-- A slot for each outcome of the promotion checks, in their order. -/
theorem witness_RejectionStageDecidesEachSlot :
    let q := ruled .pad .openZone .off
    let hesitant := ruled .pad .hesitant .off
    ([(q, { fresh .pad with mark := true }), ({ q with postureMasked := true }, fresh .pad),
        (ruled .pad .blockNew .off, fresh .pad), ({ q with guardRunning := true }, fresh .pad),
        (ruled .panel .hesitant .all, fresh .panel), (hesitant, fresh .pad), (hesitant, { fresh .pad with age := 3 }),
        (hesitant, { fresh .pad with firstX := 90 }), (ruled .panel .hesitant .off, fresh .panel),
        (q, { fresh .pad with age := 1 }), (q, tracked .suppressed .pad),
        (ruled .pad .blockAll .off, tracked .active .panel)] : List (RejectionInputs × Slot)).map
      (fun p => (p.1.stage [p.2]).map (fun k => (k.state, k.reason))) =
      [[(.suppressed, some .byClass)], [(.suppressed, some .byPosture)], [(.suppressed, some .byZone)],
        [(.suppressed, some .byTyping)], [(.suppressed, some .byPen)], [(.tentative, none)],
        [(.suppressed, some .byZone)], [(.active, none)], [(.active, none)], [(.tentative, none)],
        [(.suppressed, none)], [(.active, none)]] := by decide +kernel

/-- A slot for each outcome of the per-frame checks, in their order, with a closing where one is due. -/
theorem witness_frames_of_a_rejection_stage :
    let k := tracked .held .panel
    ([(ruled .panel .blockAll .off, told { k with mark := true }),
        ({ ruled .panel .blockAll .off with postureMasked := true }, k),
        ({ ruled .panel .blockNew .all with postureMasked := true }, told { k with closing := some closing0 }),
        (ruled .panel .blockNew .area, told { k with closed := true }),
        (ruled .panel .blockNew .area, { k with x := 111 })] : List (RejectionInputs × Slot)).map
      (fun p => (p.1.stage [p.2]).map (fun k => (k.state, k.reason, k.closing.map (·.kind)))) =
      [[(.suppressed, some .byClass, some .cancel)], [(.suppressed, some .byZone, none)],
        [(.suppressed, some .byPosture, some .up)], [(.suppressed, some .byPen, none)], [(.held, none, none)]] := by
  decide +kernel

/-- The pen in range, out of range with a linger state, and neither. -/
theorem witness_inputs_of_a_rejection_stage :
    let s := board .running
    ({ s with pen := { s.pen with state := .hover, x := 1 } }.rejectionInputs .panel).penCentre = some (1, 0) ∧
      ({ s with linger := some { deadline := 0, x := 2, y := 3 } }.rejectionInputs .panel).penCentre = some (2, 3) ∧
      (s.rejectionInputs .panel).penCentre = none ∧
      (ruled .pad .openZone .off).zones[1]? = some (zone 0 4095 0 4095 .openZone .openZone) := by decide +kernel

def straightCurve : List CurvePoint := (upTo 9).map (fun k => ⟨500 * k, true⟩)

theorem witness_ReportedValuesStayInRange :
    ((0 : Int) ≤ 255 ∧ (255 : Int) < 64 * geometry4.senseLines) ∧
      (straightCurve.length = 9 ∧ (∀ p ∈ straightCurve, p.loaded = true) ∧ curveDecreases straightCurve = false ∧
        0 ≤ 4095) := by decide +kernel

def quiet (mode : ReportMode) (switchClosed : Bool) : StageInputs :=
  { table := [{ GestureEntry.atReset with used := true, kind := .press, fingers := 1, code := 10 }],
    reporting := { reporting4 with mode := mode }, geometry := geometry4, now := 0, switchClosed := switchClosed,
    masked := false, fresh := 0 }

/-- The stage's inputs with the entries in the table, at time 60. -/
def entered (table : List GestureEntry) : StageInputs := { quiet .both false with table := table, now := 60 }

/-- A two-finger drag to the right of at least 30 within 50 ms, with capture. -/
def dragEntry : GestureEntry :=
  { GestureEntry.atReset with
    used := true, kind := .drag, fingers := 2, direction := .right, threshold := 30, limit := 10, maxTime := 50,
    capture := true, code := 5 }

/-- Two fingers, the first announced, and an engine that gathers them. -/
def pair : List Slot := [told (tracked .active .pad), { tracked .held .pad with contact := 2, x := 140 }]

def gathering : Gesture :=
  { Gesture.atReset with
    state := .gathering, members := [(0, 1), (1, 2)], hold := 1, anchorX := 90, anchorY := 100, anchorSpread := 20,
    anchorTime := 10, greatest := 2, tapEligible := true, number := 255 }

def committed2 : Gesture :=
  { gathering with state := .committed, committed := some { kind := .drag, code := 5, x := 100, y := 100, spread := 20 } }

/-- A gathering engine meets no entry, an entry it meets, one past its time, and a pending END. -/
theorem witness_GestureStageEmitsItsEvents :
    let codes := fun (q : StageInputs) (g : Gesture) => (gestureStage q g pair).events.map (fun e =>
      match e with
      | .began b => (b.number, b.code, b.x)
      | _ => (0, 0, 0))
    let waitingEnd := { gathering with
      pendingEnd := some { number := 1, reason := .normal, sequence := 0, timestamp := 0 } }
    (waitingEnd.pendingEnd ≠ none ∧ (quiet .contacts true).reporting.mode = .contacts ∧
        (quiet .gestures true).reporting.mode ≠ .contacts) ∧
      ((groupOf pair).count = 2 ∧ (groupOf pair).x = 120 ∧ (groupOf pair).members = gathering.members) ∧
      codes (entered [dragEntry]) gathering = [(0, 5, 469)] ∧
      (gestureStage (entered [dragEntry]) gathering pair).slots.map (fun k => (k.closing.isSome, k.closed)) =
        [(true, false), (false, true)] ∧
      codes (entered [{ dragEntry with threshold := 31 }, { dragEntry with capture := false, code := 6 }]) gathering =
        [(0, 6, 469)] ∧
      codes (entered [{ dragEntry with maxTime := 49 }]) gathering = [] ∧
      codes { entered [dragEntry] with reporting := { reporting4 with settleFrames := 3 } } gathering = [] ∧
      codes (entered [dragEntry]) waitingEnd = [] := by decide +kernel

/-- A stage of each other kind: a cause, a blocked engine over a clear and a busy PAD, an idle one with and without a
participant, a changed count, a lift that taps and one that does not, and a committed engine that goes on and ends. -/
theorem witness_stages_of_an_engine :
    let q := entered [{ dragEntry with kind := .tap, threshold := 0, maxTime := 60 }]
    let stage := fun (g : Gesture) (slots : List Slot) =>
      ((gestureStage q g slots).engine.state, (gestureStage q g slots).events)
    let rejected := [{ tracked .suppressed .pad with contact := 1 }]
    q.switchClosed = gathering.switchSeen ∧
      stage committed2 rejected = (.blocked, [.ended 255 .cancelled]) ∧
      stage { gathering with state := .blocked, members := [] } [tracked .ending .pad] = (.idle, []) ∧
      stage { gathering with state := .blocked, members := [] } pair = (.blocked, []) ∧
      stage Gesture.atReset [] = (.idle, []) ∧ stage Gesture.atReset pair = (.gathering, []) ∧
      stage gathering (pair.take 1) = (.gathering, []) ∧
      stage gathering [] = (.idle, [.tapped 5 2 60]) ∧
      stage { gathering with fingerTravel := 1 } [] = (.idle, []) ∧
      stage { gathering with members := [], tapEligible := false } [] = (.idle, []) ∧
      stage committed2 [] = (.idle, [.ended 255 .normal]) ∧
      stage committed2 (pair.take 1) = (.gathering, [.ended 255 .normal]) ∧
      stage committed2 pair = (.committed, [.updated { number := 255, dx := 78, dy := 0, dspread := 0, fingers := 2,
                                                       merged := 1 }]) := by decide +kernel

theorem witness_ClickSwitchGivesPressAndRelease :
    let one := [tracked .active .pad]
    let seen := { Gesture.atReset with switchSeen := true }
    (quiet .both true).reporting.mode ≠ .contacts ∧
      (memberSuppressed Gesture.atReset.members one = false ∧ (quiet .both true).masked = false ∧
        Gesture.atReset.state ≠ .blocked) ∧
      ((quiet .both true).switchClosed = true ∧ Gesture.atReset.switchSeen = false) ∧
      ((quiet .both false).switchClosed = false ∧ seen.switchSeen = true) ∧
      (quiet .both true).switchClosed = seen.switchSeen ∧
      (one.filter Slot.participates).length = 1 ∧
      (∃ e ∈ (quiet .both true).table, e.used = true ∧ e.kind = .press ∧ e.fingers = 1) ∧
      { Gesture.atReset with state := .blocked }.state = .blocked ∧ (∃ k ∈ one, k.candidate .pad = true) := by
  decide +kernel

/-- A word for each outcome, with its syndrome and its parity. -/
theorem witness_PenWordsDecodeByTheirSyndrome :
    decodeWord chapter8Word = .usable .clean chapter8Data ∧
      [0#26, 1#26, 1#26 <<< 25, (1#26 <<< 1) ^^^ (1#26 <<< 9) ^^^ (1#26 <<< 18), (1#26 <<< 13) ^^^ (1#26 <<< 22)].map
        (fun e => (syndrome (chapter8Word ^^^ e), parity (chapter8Word ^^^ e))) =
        [(0, false), (0, true), (25, true), (26, true), (27, false)] := by decide +kernel

/-- A PEN frame has been taken; with signal its peaks are 100. -/
def penTaken (present : Bool) (word : Option (BitVec 26)) (f : PenRecord → PenRecord) : State :=
  let samples : List Int := if present then [0, 100, 0, 0, 0, 0, 100, 0] else [0, 99, 0, 0, 0, 0, 100, 0]
  { onPanel (board .running) (fun v => { v with penFlight := some (penFrame samples word) }) with
    pen := f .atReset }

theorem witness_PenFrameWithSignalPlacesThePen :
    let s := penTaken true (some chapter8Word) id
    (s.started = true ∧ s.panel.penFlight = some (penFrame [0, 100, 0, 0, 0, 0, 100, 0] (some chapter8Word))) ∧
      ((s.penBlock.hoverThreshold : Int) ≤ (profilePeak (s.panel.senseProfile [0, 100, 0, 0, 0, 0, 100, 0])).1) ∧
      ((s.penBlock.hoverThreshold : Int) ≤ (profilePeak (s.panel.driveProfile [0, 100, 0, 0, 0, 0, 100, 0])).1) ∧
      decodeWord chapter8Word = .usable .clean chapter8Data ∧
      decodeWord (chapter8Word ^^^ (1#26 <<< 13) ^^^ (1#26 <<< 22)) = .uncorrectable := by decide +kernel

/-- The counts, the fault and the report of each kind of word, in an unmasked posture and in a masked one. -/
theorem witness_reports_of_a_pen_frame :
    let masked := fun (s : State) => onPanel s (fun v => { v with reporting := { v.reporting with mask := 0 } })
    let wide := fun (s : State) => { s with queueBlock := { s.queueBlock with captureMask := 0xFFF } }
    let double := chapter8Word ^^^ (1#26 <<< 13) ^^^ (1#26 <<< 22)
    [penTaken true none id, penTaken true (some chapter8Word) id, penTaken true (some (chapter8Word ^^^ 1#26)) id,
        wide (penTaken true (some double) id), masked (penTaken true none id)].map (fun s =>
          let t := ran .penStage s
          (t.penCorrected, t.penUncorrectable, t.fault.map (fun f => (f.kind, f.detail)),
            t.queue.map (·.body.kindCode))) =
        [(0, 0, none, [2]), (0, 0, none, [2]), (1, 0, none, [2]), (0, 1, some (.penUncorrectable, 27), [11, 2]),
          (0, 0, none, [])] ∧
      ([3, 7, 7, -1] : List Int) ≠ [] ∧ profilePeak [3, 7, 7, -1] = (7, 1) := by decide +kernel

theorem witness_PenFrameWithoutSignalCoastsOrLeaves :
    let s := penTaken false none id
    let near := penTaken false none (fun p => { p with state := .hover, missing := 2 })
    let far := penTaken false none (fun p => { p with state := .contact, missing := 3 })
    let samples : List Int := [0, 99, 0, 0, 0, 0, 100, 0]
    (s.panel.penFlight = some (penFrame samples none) ∧
        (profilePeak (s.panel.senseProfile samples)).1 < s.penBlock.hoverThreshold ∧
        s.pen.state = .outOfRange) ∧
      (near.pen.state ≠ .outOfRange ∧ near.pen.missing + 1 ≤ near.penBlock.penHold) ∧
      (far.pen.state ≠ .outOfRange ∧ far.penBlock.penHold < far.pen.missing + 1) ∧
      [s, near, far].map (fun s => (ran .penStage s).queue.length) = [0, 1, 1] := by decide +kernel

theorem witness_OffersMeetTheirOutcome :
    (crowded 47 part).generalCount < part.queueBlock.almostFull ∧
      (part.queueBlock.almostFull ≤ (crowded 48 part).generalCount ∧
        (crowded 48 part).mergedQueue 0 0 (.release 1 1) = none ∧ (crowded 58 part).generalCount < 59) ∧
      (59 ≤ (crowded 59 part).generalCount ∧ (crowded 59 part).mergedQueue 0 0 (.gestureEnd 1 .normal 1) = none ∧
        (Body.gestureEnd 1 .normal 1).kindCode = 5 ∧ (Body.release 1 1).kindCode ≠ 1) := by decide +kernel

/-- 48 records of others, then one of the kind. -/
def lastIs (b : Body) : State := { part with queue := List.replicate 48 (record (.tap 1 1 1 1)) ++ [record b] }

def penReport : PenReport :=
  { state := .contact, x := 0, y := 0, pressure := 0, tip := true, barrel := false, eraser := false,
    batteryLow := false, coasting := false, tag := 0, quality := .clean, merged := 255 }

def updated : GestureUpdate := { number := 1, dx := 32767, dy := -32768, dspread := 0, fingers := 2, merged := 1 }

theorem witness_MergesRewriteOneUnreadRecord :
    ∀ b ∈ [Body.frameReport (report [entry 12 .move]), .penReport penReport, .gestureUpdate updated],
      ((lastIs b).mergedQueue 1 2 b).isSome = true ∧ (lastIs b).queue[48]? = some (record b) ∧
        b.targets (record b) = true ∧ (lastIs b).delivering = false := by decide +kernel

/-- Reports of distinct contacts with a pair of each row of R164's table. -/
theorem witness_entries_merged :
    let y := report [entry 1 .down, entry 2 .move, entry 3 .move, entry 4 .move, entry 5 .up]
    let x := report [entry 1 .move, entry 2 .move, entry 3 .up, entry 4 .cancel, entry 6 .down]
    (y.entries.map (·.contact)).Nodup ∧ (x.entries.map (·.contact)).Nodup ∧
      (mergeFrameReport y x).map (fun z => z.entries.map (fun e => (e.contact, e.state))) =
        some [(1, .down), (2, .move), (3, .up), (4, .cancel), (5, .up), (6, .down)] ∧
      mergeFrameReport y (report [entry 5 .down]) = none := by decide +kernel

theorem witness_FaultsAreCapturedOnce :
    let alerted := { part with queue := [record (.alert
      { kind := .scanCrc, source := .padLink, sequence := 0, detail := 0, timestamp := 0, more := false })] }
    part.queueBlock.captureMask.getLsbD (codeIn faultKindOrder .seqGap) = false ∧
      part.queueBlock.captureMask.getLsbD (codeIn faultKindOrder .scanCrc) = true ∧
      ({ part with fault := some { kind := .scanCrc, source := .padLink, sequence := 0, detail := 0, timestamp := 0,
                                   more := false } }.fault.isSome = true) ∧
      (part.fault = none ∧ (∀ r ∈ (crowded 3 part).queue, r.body.kindCode ≠ 11)) ∧
      (alerted.fault = none ∧ ∃ r ∈ alerted.queue, r.body.kindCode = 11) := by decide +kernel

/-- A REBASE and a REPORTING write at the head: with nothing in flight, with a frame in flight, and after the wait. -/
theorem witness_AnswersPlaceOneResponse :
    let rebase := request 4 [0]
    let write := request 7 ([2, 0] ++ reporting4.bytes)
    let flying := taken .running (level 1000) id
    let held := fun (s : State) => [s.headWaits, s.holdsImage .pad, s.holdsPen .pad, s.holdsImage .panel]
    (requestCheck true rebase = none ∧ requestCheck true write = none ∧ write.deferrable = true ∧
        rebase.deferrable = false) ∧
      [headed rebase (board .running), headed rebase flying, { headed rebase (board .running) with headWaited := true },
        headed write (board .running), headed write flying,
        { headed write (board .running) with headWaited := true }, headed (request 3 [0]) flying].map held =
      [[false, false, false, false], [true, true, false, false], [false, true, false, false],
        [false, false, false, false], [true, true, true, false], [false, true, true, false],
        [false, false, false, false]] := by decide +kernel

theorem witness_TransactionsOpenWithASnapshot :
    part.started = true ∧ part.transaction = none ∧ (0 : Byte) ≠ 1 ∧ (4 : Byte) ≠ 3 ∧ (255 : Byte) ≠ 2 := by
  decide +kernel

theorem witness_ReleaseClearsAndRemoves :
    let s := ran .take (crowded 1 part)
    ∀ x, s.transaction = some x →
      x.delivering = true ∧ 6 + x.recordLength = 6 + 10 ∧ x.sendsHeader = true ∧ s.gesture.pendingEnd = none ∧
        ∀ k ∈ s.slots, k.state = .free := by
  decide +kernel

theorem witness_release_in_transaction :
    (ran .take (crowded 1 part)).transaction.isSome = true ∧
      (ran .status part).transaction.map (·.delivering) = some false := by decide +kernel

/-- R103: a closing of a STOPPED surface is offered, PAD's before PANEL's; one of a RUNNING surface is not. -/
theorem witness_closings_retried :
    let closing := fun (i : SurfaceId) => { told (tracked .ending i) with closing := some closing0 }
    let s := { board .stopped with slots := [closing .panel, closing .pad] }
    let offered := fun (t : State) => t.retryClosings.queue.map (fun r => match r.body with
      | .frameReport f => (f.surface, f.entries.map (·.state))
      | _ => (.pad, []))
    (offered s, offered (onPad s (fun v => { v with status := .running })),
        offered { board .running with slots := s.slots }, offered (board .stopped)) =
      ([(.pad, [.up]), (.panel, [.up])], [(.panel, [.up])], [], []) := by decide +kernel

/-- So many requests wait. -/
def waiting (n : Nat) (s : State) : State := { s with buffer := List.replicate n (request 1 []) }

theorem witness_RequestsMeetTheBudget :
    part.started = true ∧ part.transaction = none ∧ (zeros 3).length < 65536 ∧ (waiting 3 part).budget < 4 ∧
      4 ≤ (waiting 4 part).budget := by decide +kernel

theorem witness_FaultyPacketsAreDiscarded :
    (part.started = true ∧ part.transaction = none) ∧
      (3 ≤ (zeros 3).length ∧ stamp (crc16 ((zeros 3).take 1)) ≠ (zeros 3).drop 1) ∧
      (([] : List Byte).length ≠ 1 ∧ 5 ≤ byteAt [5] 0) ∧ ([1] : List Byte) ≠ [] ∧
      (zeros 2).length ≠ (1 : Byte).toNat + 256 * (0 : Byte).toNat ∧ (1 ≤ (zeros 1).length ∧ (zeros 4).length < 5) ∧
      ((3 : Byte) ≠ 1 ∧ (3 : Byte) ≠ 2 ∧ (zeros 2).length < 65536) := by decide +kernel

theorem witness_NoticesActAtOnce :
    (part.started = true ∧ part.transaction = none) ∧
      [Posture.laptop, .stand, .tent, .tablet, .closed][(4 : Byte).toNat]? = some .closed ∧
      ({ board .running with padRejection := { guardTime := 1, hesitantTravel := 0, hesitantFrames := 1 } }
          |>.padRejectionReady) = true := by decide +kernel

theorem witness_DeadlinesActAlone :
    let l : Linger := { deadline := 2500, x := 0, y := 0 }
    part.started = true ∧ { part with guard := some 0 }.guard = some 0 ∧ { part with guard := some 1 }.guard = some (0 + 1) ∧
      { part with linger := some l }.linger = some l ∧
      (l.deadline = { part with time := 2500 }.time ∧ 2000 < (l.deadline - { part with time := 2501 }.time).toNat) ∧
      (l.deadline ≠ { part with time := 500 }.time ∧ (l.deadline - { part with time := 500 }.time).toNat ≤ 2000) ∧
      ((crowded 1 part).queue = record (.tap 1 1 1 1) :: [] ∧
        { part with queueBlock := { part.queueBlock with maxDelay := 5 } }.queueBlock.maxDelay ≠ 0 ∧
        5 ≤ ({ part with time := 5 }.time - (record (.tap 1 1 1 1)).placed).toNat) := by decide +kernel

theorem witness_RequestsAreCheckedThenMayWait :
    let s := onPad (headed (request 4 [0]) (board .running)) (fun v =>
      { v with imageFlight := some { frame := frame [], progress := .taken } })
    ((headed (request 2 [1]) padOnly).buffer.head? = some (request 2 [1]) ∧ rowOf 2 = some .start ∧
        requestCheck padOnly.straps.panelEn (request 2 [1]) = some .noSurface) ∧
      ((headed (request 0 []) part).buffer.head? = some (request 0 []) ∧ 15 < (16 : Byte).toNat) ∧
      (s.AtHead (request 4 [0]) 4 ∧ (s.surface (request 4 [0]).surface).imageFlight ≠ none) ∧
      ((headed (request 7 ([2, 0] ++ reporting4.bytes)) s).AtHead (request 7 ([2, 0] ++ reporting4.bytes)) 7 ∧
        (request 7 ([2, 0] ++ reporting4.bytes)).deferrable = true ∧ (s.surface .pad).busy = true) ∧
      ((headed (request 5 ([2, 0, 0] ++ ZoneEntry.atReset.bytes)) s).AtHead
          (request 5 ([2, 0, 0] ++ ZoneEntry.atReset.bytes)) 5 ∧
        (request 5 ([2, 0, 0] ++ ZoneEntry.atReset.bytes)).deferrable = true) := by decide +kernel

/-- R175: requests at the ends of the lengths that fit, surface operands at their ends, and the content of LOAD_TABLE and
SET_PARAMS. -/
theorem witness_checks_of_a_request :
    let check := fun (code : Byte) (payload : List Byte) => requestCheck true (request code payload)
    ([check 1 [], check 9 [255], check 10 [0], check 11 [1, 0], check 12 [0, 0, 0], check 13 [0, 0],
        check 13 (zeros 65), check 14 [], check 15 [], check 6 [4, 0, 0, 0], check 8 [4, 0], check 8 [5, 255],
        check 7 ([5, 255] ++ zeros 5), check 7 ([3, 0] ++ zeros 5), check 7 ([3, 1] ++ zeros 13)] =
      List.replicate 15 none) ∧
    ([check 1 [0], check 9 [], check 10 [0, 0], check 11 [9], check 12 [0, 0], check 13 [0], check 13 (zeros 66),
        check 14 [0], check 15 [0], check 6 [9, 9, 9], check 8 [9], check 7 [9], check 5 [9, 9], check 5 [0, 0, 0],
        check 5 [1, 0, 0, 0], check 7 [3, 0], check 7 ([3, 1] ++ zeros 5), check 7 [5, 255]] =
      List.replicate 18 (some .badLength)) ∧
    ([check 6 [9, 2, 0, 0], check 5 [9, 2, 0], check 7 [4, 2], check 8 [6, 2], check 11 [2, 0], check 13 [2, 0]] =
      List.replicate 6 (some .badValue)) ∧
    ([check 5 [5, 0, 0], check 5 [3, 1, 0], check 5 [4, 0, 0], check 7 [6, 0], check 7 [4, 0]] =
      List.replicate 5 (some .badTable)) ∧
    requestCheck false (request 7 [4, 1]) = some .noSurface ∧ requestCheck false (request 8 [5, 1]) = none ∧
    [check 0 [], check 16 []] = List.replicate 2 (some .unknownRequest) := by decide +kernel

theorem witness_StartNeedsEveryItemReady :
    let r := request 2 [0]
    ((headed r (board .running)).AtHead r 2 ∧ ((board .running).surface r.surface).status ≠ .stopped) ∧
      ((headed r part).AtHead r 2 ∧ (part.surface r.surface).status = .stopped ∧
        readyItemOrder.filter (part.missingItem r.surface) =
          [.geometry, .lineMap, .detection, .reporting, .rejection, .classTable, .zone]) ∧
      ((headed r (board .stopped)).AtHead r 2 ∧
        readyItemOrder.filter ((board .stopped).missingItem r.surface) = []) := by decide +kernel

theorem witness_StopAndRebaseAnswerAfterTheirEffects :
    ((headed (request 3 [0]) (board .stopped)).AtHead (request 3 [0]) 3 ∧
        (headed (request 3 [1]) (board .stalled)).AtHead (request 3 [1]) 3) ∧
      (∀ status ∈ [SurfaceState.stopped, .stalled, .acquiring, .running],
        (headed (request 4 [0]) (board status)).AtHead (request 4 [0]) 4 ∧
          (headed (request 4 [0]) (board status)).Unhindered (request 4 [0])) := by decide +kernel

/-- A LOAD_TABLE at the head of a stopped board. -/
abbrev Loads (payload : List Byte) : Prop :=
  (headed (request 5 payload) (board .stopped)).AtHead (request 5 payload) 5 ∧
    (headed (request 5 payload) (board .stopped)).Unhindered (request 5 payload)

def dead : LineEntry := { line := some 254, dead := true }

def class4 : ClassEntry := classEntry 4 3072 0 1 2 4 65535 65535 .edge .grip

theorem witness_LoadTableWritesItsEntries :
    (dead.Valid ∧ Loads ([0, 0, byteOf 127] ++ [dead].flatMap LineEntry.bytes) ∧
        Loads ([0, 0, byteOf 128] ++ [dead].flatMap LineEntry.bytes)) ∧
      (class4.Valid ∧ Loads ([1, 1, byteOf 15] ++ [class4].flatMap ClassEntry.bytes) ∧
        Loads ([1, 1, byteOf 16] ++ [class4].flatMap ClassEntry.bytes)) ∧
      (ZoneEntry.atReset.Valid ∧ Loads ([2, 0, byteOf 7] ++ [ZoneEntry.atReset].flatMap ZoneEntry.bytes) ∧
        Loads ([2, 0, byteOf 8] ++ [ZoneEntry.atReset].flatMap ZoneEntry.bytes)) ∧
      (GestureEntry.atReset.Valid ∧ Loads ([3, 0, byteOf 15] ++ [GestureEntry.atReset].flatMap GestureEntry.bytes) ∧
        Loads ([3, 0, byteOf 255] ++ [GestureEntry.atReset].flatMap GestureEntry.bytes)) ∧
      (Loads ([4, 1, byteOf 8] ++ [4095].flatMap (fun x : Nat => le16 x)) ∧
        curveDecreases ((board .stopped).curve.take 8 ++ [⟨4095, true⟩]) = false ∧
        Loads ([4, 1, byteOf 7] ++ [4095].flatMap (fun x : Nat => le16 x)) ∧
        curveDecreases ((board .stopped).curve.take 7 ++ [⟨4095, true⟩] ++ (board .stopped).curve.drop 8) = true ∧
        Loads ([4, 1, byteOf 9] ++ [0].flatMap (fun x : Nat => le16 x))) := by
  and_intros <;> decide +kernel

/-- Entries that LOAD_TABLE refuses, each behind a sound one that is not written either, and LINE_MAP out of STOPPED. -/
theorem witness_entries_refused :
    let zone0 := ZoneEntry.atReset.bytes
    let gesture0 := GestureEntry.atReset.bytes
    let answer := fun (s : State) (payload : List Byte) =>
      let t := ran .loadTable (headed (request 5 payload) s)
      (t.queue.map (·.body), t.pad == s.pad, t.panel == s.panel, t.gestureTable == s.gestureTable, t.curve == s.curve)
    let refused := fun (code : ResponseCode) => ([Body.response 5 code []], true, true, true, true)
    let stopped := board .stopped
    ([class4.bytes.set 0 2, class4.bytes.set 4 0 |>.set 3 3, class4.bytes.set 21 3, class4.bytes.set 22 5].map
        (fun e => answer stopped ([1, 1, 14] ++ class4.bytes ++ e)) ++
      [zone0.set 0 2, zone0.set 1 255 |>.set 5 254, zone0.set 3 1, zone0.set 13 4].map
        (fun e => answer stopped ([2, 0, 6] ++ zone0 ++ e)) ++
      [gesture0.set 1 4, gesture0.set 2 0, gesture0.set 2 6, gesture0.set 3 1, gesture0.set 1 1 |>.set 3 5,
          gesture0.set 1 2 |>.set 3 4, gesture0.set 10 2, gesture0.set 11 0, gesture0.set 11 251].map
        (fun e => answer stopped ([3, 0, 14] ++ gesture0 ++ e)) ++
      [answer stopped [4, 1, 7, 255, 15, 0, 16]] = List.replicate 18 (refused .badValue)) ∧
    [answer stopped ([3, 0, 15] ++ gesture0 ++ gesture0.set 11 0), answer stopped [0, 0, 128, 0, 0]] =
      List.replicate 2 (refused .badIndex) ∧
    answer (board .running) [0, 0, 128, 0, 0] = refused .surfaceRunning := by decide +kernel

/-- A SET_PARAMS at the head of a board. -/
abbrev Sets (status : SurfaceState) (payload : List Byte) : Prop :=
  (headed (request 7 payload) (board status)).AtHead (request 7 payload) 7 ∧
    (headed (request 7 payload) (board status)).Unhindered (request 7 payload)

def wide : Geometry := { geometry4 with driveChannels := 72, senseChannels := 1, driveLines := 64, senseLines := 4 }

def limits : Detection := { detection4 with touchThreshold := 4095, noiseFloor := 4094, frameTimeout := 1000 }

theorem witness_SetParamsWritesTheBlock :
    (Sets .stopped ([0, 0] ++ wide.bytes) ∧ Sets .running ([0, 0] ++ wide.bytes) ∧
        (request 7 ([0, 0] ++ wide.bytes)).block = some .geometry) ∧
      (limits.InRange ∧ limits.noiseFloor < limits.touchThreshold ∧ Sets .stopped ([1, 1] ++ limits.bytes) ∧
        (request 7 ([1, 1] ++ limits.bytes)).block = some .detection) ∧
      ({ limits with touchThreshold := 4094 }.InRange ∧
        Sets .stopped ([1, 0] ++ { limits with touchThreshold := 4094 }.bytes)) ∧
      (Sets .running ([2, 0] ++ { reporting4 with lx := 255, ly := 32767, mode := .contacts }.bytes) ∧
        (surface4 .running).reporting.mode ≠ .contacts) ∧
      Sets .running ([2, 1] ++ { reporting4 with settleFrames := 8, mode := .contacts }.bytes) ∧
      Sets .running ([3, 0] ++ { guardTime := 0, hesitantTravel := 4095, hesitantFrames := 255 : PadRejection }.bytes) ∧
      Sets .running ([3, 1] ++ { PanelRejection.atReset with ahead := 4095, linger := 2000, shadowRadius := 255 }.bytes) ∧
      Sets .running ([4, 1] ++ { hoverThreshold := 1, penHold := 15 : PenBlock }.bytes) ∧
      Sets .running ([5, 7] ++ { QueueBlock.atReset with attentionThreshold := 59, almostFull := 8 }.bytes) := by
  and_intros <;> decide +kernel

/-- Blocks sent with values out of range, each end, and enumerated fields outside their sets. -/
theorem witness_blocks_clamped_or_refused :
    (Sets .stopped [0, 0, 73, 1, 4, 4, 0, 0] ∧ Sets .stopped [0, 0, 72, 1, 4, 4, 0, 2] ∧
        (request 7 [0, 0, 72, 1, 4, 4, 0, 2]).block = some .geometry) ∧
      (Sets .stopped ([1, 0] ++ zeros 17) ∧ Sets .stopped ([1, 0, 255, 255, 254, 15] ++ List.replicate 13 255) ∧
        Sets .stopped ([1, 0, 0, 0, 1, 0] ++ zeros 13)) ∧
      (Sets .running ([2, 0] ++ zeros 8) ∧ Sets .running [2, 0, 255, 255, 255, 255, 255, 255, 3, 0] ∧
        Sets .running [2, 1, 0, 0, 0, 0, 0, 0, 1, 0] ∧ Sets .running [2, 1, 255, 255, 0, 0, 0, 0, 0, 9]) ∧
      (Sets .running [3, 0, 255, 255, 255, 255, 0] ∧ Sets .running ([3, 1, 2, 1] ++ List.replicate 11 255) ∧
        Sets .running ([3, 1, 3, 0] ++ zeros 11) ∧ Sets .running ([3, 1, 0, 2] ++ zeros 11)) ∧
      (Sets .running [4, 1, 0, 0, 16] ∧ Sets .running [5, 0, 0, 7, 0, 255, 255] ∧
        Sets .running [5, 0, 60, 60, 0, 0, 0]) := by
  and_intros <;> decide +kernel

/-- R177: DETECTION of zeros comes up to the lower ends and answers CLAMPED. -/
theorem test_detection_is_clamped :
    let s := ran .setParams (headed (request 7 ([1, 0] ++ zeros 17)) (board .stopped))
    (s.pad.detection, s.queue.map (·.body)) =
      ({ touchThreshold := 1, noiseFloor := 0, acquireFrames := 1, driftInterval := 1, driftStep := 1,
         negativeThreshold := 1, anomalyFrames := 1, contactLimit := 1, confirmFrames := 1, coastFrames := 0,
         trackGate := 16, frameTimeout := 10 }, [.response 7 .clamped []]) := by decide +kernel

theorem witness_LayoutsReadBackWhatTheyHold :
    detection4.InRange ∧ { line := some 254, dead := true : LineEntry }.Valid ∧
      (classEntry 4 3072 0 1 2 4 65535 65535 .edge .grip).Valid ∧ ZoneEntry.atReset.Valid ∧
      { GestureEntry.atReset with kind := .pinch, direction := .either, fingers := 5, code := 250 }.Valid ∧
      (reporting4.lx < 65536 ∧ (SurfaceId.pad = .panel → reporting4.mode = .contacts)) ∧ 4095 < 65536 := by decide +kernel

theorem witness_DescribeNamesThePart : (headed (request 1 []) part).AtHead (request 1 []) 1 := by decide +kernel

theorem witness_ReadsReturnWhatIsHeld :
    ((headed (request 6 [3, 1, 0, 1]) part).AtHead (request 6 [3, 1, 0, 1]) 6 ∧ hasTable .gesture .panel = false) ∧
      ((headed (request 6 [0, 0, 8, 120]) part).AtHead (request 6 [0, 0, 8, 120]) 6 ∧ hasTable .lineMap .pad = true ∧
        8 + 120 ≤ tableSize .lineMap ∧ 120 * entrySize .lineMap ≤ 240) ∧
      ((headed (request 6 [0, 0, 9, 120]) part).AtHead (request 6 [0, 0, 9, 120]) 6 ∧ tableSize .lineMap < 9 + 120) ∧
      240 < 121 * entrySize .lineMap ∧
      ((headed (request 6 [4, 1, 0, 9]) part).AtHead (request 6 [4, 1, 0, 9]) 6 ∧ 0 + 9 ≤ tableSize .pressureCurve) ∧
      ((headed (request 6 [2, 1, 8, 0]) part).AtHead (request 6 [2, 1, 8, 0]) 6 ∧ 8 ≤ tableSize .zone ∧
        (headed (request 6 [2, 1, 9, 0]) part).AtHead (request 6 [2, 1, 9, 0]) 6 ∧ tableSize .zone < 9) ∧
      ((headed (request 6 [5, 0, 0, 1]) part).AtHead (request 6 [5, 0, 0, 1]) 6 ∧ 4 < byteAt [5, 0, 0, 1] 0) ∧
      ((headed (request 8 [6, 0]) part).AtHead (request 8 [6, 0]) 8 ∧ 5 < byteAt [6, 0] 0) ∧
      ((headed (request 8 [4, 0]) part).AtHead (request 8 [4, 0]) 8 ∧ hasBlock .pen .pad = false) ∧
      ((headed (request 8 [5, 9]) part).AtHead (request 8 [5, 9]) 8 ∧ hasBlock .queue (request 8 [5, 9]).surface = true) ∧
      (∀ code ∈ [0, 1, 2, 3, 4, 5], (headed (request 9 [code]) part).AtHead (request 9 [code]) 9) ∧
      (headed (request 9 [6]) part).AtHead (request 9 [6]) 9 := by
  and_intros <;> decide +kernel

theorem witness_ClearFaultEmptiesTheRecord :
    (headed (request 10 [0xFE]) part).AtHead (request 10 [0xFE]) 10 ∧ (0xFE : Byte).getLsbD 0 = false ∧
      (headed (request 10 [1]) part).AtHead (request 10 [1]) 10 ∧ (1 : Byte).getLsbD 0 = true := by decide +kernel

theorem witness_CaptureWaitsOrTakesTheBaseline :
    let busy := { board .running with pendingCapture := some { tag := 1, surface := .pad, kind := .raw } }
    ((headed (request 11 [0, 3]) (board .running)).AtHead (request 11 [0, 3]) 11 ∧ 3 ≤ (3 : Byte).toNat) ∧
      ((headed (request 11 [0, 2]) busy).AtHead (request 11 [0, 2]) 11 ∧ busy.pendingCapture ≠ none) ∧
      ((headed (request 11 [1, 2]) (board .stalled)).AtHead (request 11 [1, 2]) 11 ∧
        (board .stalled).pendingCapture = none ∧ (board .stalled).panel.status = .stalled) ∧
      ((headed (request 11 [1, 2]) (board .acquiring)).AtHead (request 11 [1, 2]) 11 ∧
        (board .acquiring).panel.status = .acquiring) ∧
      ((headed (request 11 [0, 1]) (board .running)).AtHead (request 11 [0, 1]) 11 ∧ (1 : Byte).toNat < 2) := by
  decide +kernel

theorem witness_ReadCaptureReturnsAPiece :
    let c : CaptureBuffer := { surface := .pad, kind := .raw, driveLines := 16, senseLines := 24, sequence := 1,
                               arrival := 0, valid := true, image := List.replicate 16 (List.replicate 24 5) }
    let s := { part with captureBuffer := some c }
    ((headed (request 12 [0, 0, 1]) part).AtHead (request 12 [0, 0, 1]) 12 ∧ part.captureBuffer = none) ∧
      s.captureBuffer = some c ∧ c.driveLines * c.senseLines = 384 ∧
      ((headed (request 12 [0x80, 1, 1]) s).AtHead (request 12 [0x80, 1, 1]) 12 ∧ 384 ≤ 0x80 + 256 * 1) ∧
      ((headed (request 12 [0x7F, 1, 0]) s).AtHead (request 12 [0x7F, 1, 0]) 12 ∧ 0x7F + 256 * 1 < 384) ∧
      ((headed (request 12 [0x7F, 1, 1]) s).AtHead (request 12 [0x7F, 1, 1]) 12 ∧
        (headed (request 12 [0x7F, 1, 2]) s).AtHead (request 12 [0x7F, 1, 2]) 12 ∧
        (headed (request 12 [0, 0, 120]) s).AtHead (request 12 [0, 0, 120]) 12 ∧
        (headed (request 12 [0, 0, 121]) s).AtHead (request 12 [0, 0, 121]) 12) := by decide +kernel

theorem witness_RelayHoldsOnePacket :
    let full := onPanel (headed (request 13 (1 :: zeros 64)) part) (fun v => { v with relay := some [1] })
    (full.AtHead (request 13 (1 :: zeros 64)) 13 ∧ (full.surface (request 13 (1 :: zeros 64)).surface).relay ≠ none) ∧
      ((headed (request 13 [0, 7]) part).AtHead (request 13 [0, 7]) 13 ∧ (part.surface .pad).relay = none) := by
  decide +kernel

end Sys2Proof.Tests
end

section
/-! PROOFS. The REPLY path of the scan links (R17 to R20, R29), and what the queue does with a RELAY record (R163). -/

namespace Sys2Proof.Machine

variable (s : State)

/-! ## The queue and RELAY records (R163) -/

/-- No body merges with a RELAY record, so the queue finds no place for it but a new one (R163 to R165). -/
@[simp] theorem State.mergedQueue_relay (q : Byte) (t : BitVec 16) (i : SurfaceId) (bytes : List Byte) :
    s.mergedQueue q t (.relay i bytes) = none := by
  have no_merge : ∀ b : Body, (Body.relay i bytes).mergeWith b = none := fun _ => rfl
  simp only [State.mergedQueue, no_merge, Option.map_none]
  cases lastWhere (Body.relay i bytes).targets s.queue with
  | none => rfl
  | some k =>
    dsimp only
    split
    · rfl
    · cases s.queue[k]? <;> rfl

/-- A RELAY record is appended while there is room, below 59 or below almost_full (R163). -/
theorem State.offer_relay_of_room {s : State} (room : s.generalCount < 59 ∨ s.generalCount < s.queueBlock.almostFull)
    (q : Byte) (t : BitVec 16) (i : SurfaceId) (bytes : List Byte) :
    (s.offer q t (.relay i bytes)).2 = s.append q t (.relay i bytes) := by
  by_cases low : s.generalCount < s.queueBlock.almostFull
  · simp [State.offer, low]
  · have below : s.generalCount < 59 := room.resolve_right low
    simp [State.offer, low, below]

/-- A RELAY record that finds no room is dropped, counted and raised (R163). -/
theorem State.offer_relay_of_full {s : State}
    (full : ¬ (s.generalCount < 59 ∨ s.generalCount < s.queueBlock.almostFull))
    (q : Byte) (t : BitVec 16) (i : SurfaceId) (bytes : List Byte) :
    (s.offer q t (.relay i bytes)).2 =
      { s with droppedCount := bump s.droppedCount 1 }.raiseFault .queueDrop .queue q 9 := by
  obtain ⟨atLimit, high⟩ := not_or.mp full
  simp [State.offer, high, atLimit, Body.defers, Body.kindCode]

/-- A fault may append an ALERT, whose kind code is 11; the records of every other kind stand (R166, R181). -/
theorem State.raiseFault_filter_kindCode {n : Nat} (notAlert : n ≠ 11) (k : FaultKind) (src : FaultSource) (q : Byte)
    (d : Nat) :
    (s.raiseFault k src q d).queue.filter (fun r => r.body.kindCode == n) =
      s.queue.filter (fun r => r.body.kindCode == n) := by
  obtain ⟨-, h⟩ | ⟨-, ⟨f, -, h⟩ | ⟨-, h⟩⟩ := s.raiseFault_cases k src q d
  · rw [h]
  · rw [h, State.withFault_queue]
  · rw [h]
    obtain ⟨-, e⟩ | ⟨-, e⟩ := State.requestAlert_cases
      (s.withFault (some { kind := k, source := src, sequence := q, detail := d, timestamp := low16 s.time,
                           more := false }))
      { kind := k, source := src, sequence := q, detail := d, timestamp := low16 s.time, more := false }
    · rw [e, State.withFault_queue]
    · rw [e, State.append_queue, State.withFault_queue, List.filter_append]
      simp [Body.kindCode, notAlert.symm]

/-! ## The intake checks of a REPLY (R17 to R20, R29) -/

/-- A packet just completed sends the framer to HUNTING and meets the intake checks (R17, R18). -/
theorem State.scanPacket_of_completes {s : State} {i : SurfaceId} {h : ScanHeader} {payload : List Byte}
    (complete : s.Completes i h payload) (crc : Byte × Byte) :
    s.scanPacket i payload crc = (s.withFramer i .hunting).checkPacket i h payload (receivedCrc crc) := by
  obtain ⟨started, present, framer, length⟩ := complete
  simp [State.scanPacket, framer, length, State.linkServed, started, present, receivedCrc, word16]

/-- A REPLY carries 1 to 64 bytes (R20). -/
theorem lengthRight_reply {h : ScanHeader} (reply : h.kind = 3) (g : Geometry) (n : Nat) :
    lengthRight h g n = decide (1 ≤ n ∧ n ≤ 64) := by
  simp [lengthRight, reply]

/-- Of the form table's rows only the length can fail a REPLY (R20). -/
theorem formFailure_reply {h : ScanHeader} (reply : h.kind = 3) (g : Geometry) (i : SurfaceId) (n : Nat) :
    formFailure g i h n = if 1 ≤ n ∧ n ≤ 64 then none else some .length := by
  simp only [formFailure, lengthRight_reply reply]
  by_cases fits : 1 ≤ n ∧ n ≤ 64
  · simp [frameKind, reply, fits]
  · simp [frameKind, reply, fits]

/-- The intake checks of a REPLY do not look at the surface's state: the CRC, then the length, then the offer of the
RELAY record (R18 to R20, R29). -/
theorem State.checkPacket_reply {h : ScanHeader} (reply : h.kind = 3) (i : SurfaceId) (payload : List Byte)
    (crc : BitVec 16) :
    s.checkPacket i h payload crc =
      if crc16 (headerBytes h ++ payload) ≠ crc then
        (s.countLink i (fun c => { c with crcErrors := bump c.crcErrors 1 })).raiseFault .scanCrc (linkSource i)
          h.sequence h.kind.toNat
      else if 1 ≤ payload.length ∧ payload.length ≤ 64 then
        (s.offer h.sequence (low16 s.time) (.relay i payload)).2
      else s.lengthFault i h.sequence .length := by
  have notFrame : frameKind h.kind = false := by simp [frameKind, reply]
  have forwarded : s.goodPacket i h payload = (s.offer h.sequence (low16 s.time) (.relay i payload)).2 := by
    simp [State.goodPacket, reply]
  simp only [State.checkPacket, notFrame, formFailure_reply reply, forwarded]
  by_cases crcRight : crc16 (headerBytes h ++ payload) = crc
  · by_cases fits : 1 ≤ payload.length ∧ payload.length ≤ 64
    · simp [crcRight, fits]
    · simp [crcRight, fits]
  · simp [crcRight]

/-- A REPLY that passes both checks comes to the queue's answer (R29). -/
theorem State.checkPacket_good_reply {h : ScanHeader} (reply : h.kind = 3) {payload : List Byte} {crc : BitVec 16}
    (good : crc16 (headerBytes h ++ payload) = crc ∧ 1 ≤ payload.length ∧ payload.length ≤ 64) (i : SurfaceId) :
    s.checkPacket i h payload crc = (s.offer h.sequence (low16 s.time) (.relay i payload)).2 := by
  obtain ⟨crcRight, fits⟩ := good
  rw [s.checkPacket_reply reply, if_neg (not_not.mpr crcRight), if_pos fits]

/-- A REPLY that fails a check leaves the records of every kind but ALERT as they were (R19, R20, R29). -/
theorem State.checkPacket_failed_reply {h : ScanHeader} (reply : h.kind = 3) {payload : List Byte} {crc : BitVec 16}
    (failed : ¬ (crc16 (headerBytes h ++ payload) = crc ∧ 1 ≤ payload.length ∧ payload.length ≤ 64)) (i : SurfaceId)
    {n : Nat} (notAlert : n ≠ 11) :
    (s.checkPacket i h payload crc).queue.filter (fun r => r.body.kindCode == n) =
      s.queue.filter (fun r => r.body.kindCode == n) := by
  rw [s.checkPacket_reply reply]
  by_cases crcRight : crc16 (headerBytes h ++ payload) = crc
  · have tooShortOrLong : ¬ (1 ≤ payload.length ∧ payload.length ≤ 64) := fun fits => failed ⟨crcRight, fits⟩
    rw [if_neg (not_not.mpr crcRight), if_neg tooShortOrLong, State.lengthFault,
      State.raiseFault_filter_kindCode _ notAlert, State.countLink_queue]
  · rw [if_pos crcRight, State.raiseFault_filter_kindCode _ notAlert, State.countLink_queue]

/-- The room for a general record does not depend on a framer (R162, R163). -/
@[simp] theorem State.withFramer_generalCount (i : SurfaceId) (f : Framer) :
    (s.withFramer i f).generalCount = s.generalCount := by
  simp [State.generalCount]

/-- Settles O16: the packet meets the checks with the framer back in HUNTING; a good REPLY is the queue's to answer,
and a failed one raises a fault, which appends no record but an ALERT. -/
theorem goodReplyBecomesRelayRecord : Obligations.GoodReplyBecomesRelayRecord := by
  intro s i h payload crc complete reply hunt room good
  have run : exec (.scanPacket i payload crc) s =
      .next ((s.withFramer i .hunting).checkPacket i h payload (receivedCrc crc)) :=
    congrArg Host.Outcome.next (State.scanPacket_of_completes complete crc)
  have sameRoom : room ↔ ((s.withFramer i .hunting).generalCount < 59 ∨
      (s.withFramer i .hunting).generalCount < (s.withFramer i .hunting).queueBlock.almostFull) := by
    simp [room]
  refine ⟨fun isGood hasRoom => ?appended, fun isGood noRoom => ?dropped, fun isBad => ?failed⟩
  case appended =>
    rw [run, State.checkPacket_good_reply _ reply isGood, State.offer_relay_of_room (sameRoom.mp hasRoom),
      State.append, State.withFramer_queue, State.withFramer_time]
    rfl
  case dropped =>
    rw [run, State.checkPacket_good_reply _ reply isGood, State.offer_relay_of_full (noRoom ∘ sameRoom.mpr),
      State.withFramer_droppedCount]
    rfl
  case failed =>
    refine ⟨_, run, ?_⟩
    rw [State.checkPacket_failed_reply _ reply isBad i (by decide), State.withFramer_queue]

end Sys2Proof.Machine
end

section
/-! PROOFS. The on nodes and the components of a delta image (R55 to R57). -/

namespace Sys2Proof.Machine

/-! ## The on nodes in scan order (R55) -/

/-- Drive-major scan order (R57). -/
abbrev Node.ScanBefore (a b : Node) : Prop := a.d < b.d ∨ (a.d = b.d ∧ a.s < b.s)

/-- The positions that `zipIdx` pairs with the elements of a list increase. -/
theorem pairwise_zipIdx_snd_lt {α : Type} (l : List α) : l.zipIdx.Pairwise (fun a b => a.2 < b.2) := by
  rw [← List.pairwise_map (f := Prod.snd) (R := (· < ·)), List.zipIdx_map_snd]
  exact List.pairwise_lt_range'

theorem mem_onNodes {threshold : Nat} {image : Image} {n : Node} :
    n ∈ onNodes threshold image ↔ nodeAt image n.d n.s = some n.delta ∧ (threshold : Int) ≤ n.delta := by
  simp only [onNodes, nodeAt, List.mem_flatMap, List.mem_filterMap, Prod.exists, List.mk_mem_zipIdx_iff_getElem?,
    Option.bind_eq_some_iff, Option.ite_none_right_eq_some, Option.some.injEq]
  constructor
  · rintro ⟨row, d, rowAt, v, s, valueAt, reaches, rfl⟩
    exact ⟨⟨row, rowAt, valueAt⟩, reaches⟩
  · rintro ⟨⟨row, rowAt, valueAt⟩, reaches⟩
    exact ⟨row, n.d, rowAt, n.delta, n.s, valueAt, reaches, rfl⟩

theorem onNodes_pairwise_scanBefore (threshold : Nat) (image : Image) :
    (onNodes threshold image).Pairwise Node.ScanBefore := by
  refine List.pairwise_flatMap.mpr ⟨fun row _ => ?alongRow, (pairwise_zipIdx_snd_lt image).imp ?acrossRows⟩
  case alongRow =>
    refine List.pairwise_filterMap.mpr ((pairwise_zipIdx_snd_lt row.1).imp ?_)
    simp only [Option.ite_none_right_eq_some, Option.some.injEq]
    rintro a b before _ ⟨-, rfl⟩ _ ⟨-, rfl⟩
    exact Or.inr ⟨rfl, before⟩
  case acrossRows =>
    simp only [List.mem_filterMap, Option.ite_none_right_eq_some, Option.some.injEq]
    rintro a b before _ ⟨_, -, -, rfl⟩ _ ⟨_, -, -, rfl⟩
    exact Or.inl before

theorem onNodes_nodup (threshold : Nat) (image : Image) : (onNodes threshold image).Nodup := by
  refine (onNodes_pairwise_scanBefore threshold image).imp ?_
  rintro a _ before rfl
  omega

/-! ## Adjacency and chains (R56) -/

theorem Node.adjacent_iff {m n : Node} :
    m.adjacent n = true ↔
      (m.d ≠ n.d ∨ m.s ≠ n.s) ∧ ((m.d : Int) - n.d).natAbs ≤ 1 ∧ ((m.s : Int) - n.s).natAbs ≤ 1 := by
  simp only [Node.adjacent, Bool.and_eq_true, Bool.not_eq_true', Bool.and_eq_false_iff, beq_eq_false_iff_ne,
    decide_eq_true_eq]
  omega

theorem Node.adjacent_comm (m n : Node) : m.adjacent n = n.adjacent m := by
  rw [Bool.eq_iff_iff, Node.adjacent_iff, Node.adjacent_iff]
  omega

/-- A chain of adjacent nodes of `c` leads from the first node to the second. -/
abbrev Chained (c : List Node) : Node → Node → Prop :=
  Relation.ReflTransGen (fun p q => q ∈ c ∧ p.adjacent q = true)

/-- Every two nodes of `c` are joined by a chain of adjacent nodes of `c` (R56). -/
def Connected (c : List Node) : Prop := ∀ x ∈ c, ∀ y ∈ c, Chained c x y

theorem connected_singleton (n : Node) : Connected [n] := by
  intro x hx y hy
  rw [List.mem_singleton.mp hx, List.mem_singleton.mp hy]

theorem Chained.mono {c c' : List Node} (sub : c ⊆ c') {x y : Node} (chain : Chained c x y) : Chained c' x y :=
  Relation.ReflTransGen.mono (fun _ _ ⟨inside, adjacent⟩ => ⟨sub inside, adjacent⟩) _ _ chain

/-- Nodes that are each adjacent to one of a connected list can be added to it: a chain between any two nodes of the
longer list leads through the old one. -/
theorem Connected.append {c added : List Node} (connected : Connected c)
    (touching : ∀ n ∈ added, ∃ m ∈ c, n.adjacent m = true) : Connected (c ++ added) := by
  have anchor : ∀ x ∈ c ++ added, ∃ m ∈ c, Chained (c ++ added) x m ∧ Chained (c ++ added) m x := by
    intro x hx
    rcases List.mem_append.mp hx with old | new
    · exact ⟨x, old, .refl, .refl⟩
    · obtain ⟨m, hm, adjacent⟩ := touching x new
      exact ⟨m, hm, .single ⟨List.mem_append_left _ hm, adjacent⟩, .single ⟨hx, m.adjacent_comm x ▸ adjacent⟩⟩
  intro x hx y hy
  obtain ⟨m, hm, toOld, -⟩ := anchor x hx
  obtain ⟨n, hn, -, fromOld⟩ := anchor y hy
  have between : Chained (c ++ added) m n := (connected m hm n hn).mono (List.subset_append_left _ _)
  exact (toOld.trans between).trans fromOld

/-! ## Growing one component (R56) -/

/-- The nodes of `rest` that a round adds to the component `c`. -/
abbrev nearTo (c rest : List Node) : List Node := rest.filter (fun n => c.any n.adjacent)

/-- The nodes of `rest` that a round leaves outside the component `c`. -/
abbrev farFrom (c rest : List Node) : List Node := rest.filter (fun n => !c.any n.adjacent)

theorem growComponent_of_none_near {c rest : List Node} (noneNear : nearTo c rest = []) (fuel : Nat) :
    growComponent (fuel + 1) c rest = (c, rest) := by
  simp only [growComponent, noneNear, List.isEmpty_nil, if_true]

theorem growComponent_of_some_near {c rest : List Node} (someNear : nearTo c rest ≠ []) (fuel : Nat) :
    growComponent (fuel + 1) c rest = growComponent fuel (c ++ nearTo c rest) (farFrom c rest) := by
  simp only [growComponent, List.isEmpty_iff, if_neg someNear]

/-- What a round keeps of a component and the nodes outside it, the growth keeps. -/
theorem growComponent_preserves {P : List Node → List Node → Prop}
    (round : ∀ c rest, P c rest → P (c ++ nearTo c rest) (farFrom c rest)) (fuel : Nat) {c rest : List Node}
    (start : P c rest) : P (growComponent fuel c rest).1 (growComponent fuel c rest).2 := by
  induction fuel generalizing c rest with
  | zero => exact start
  | succ fuel ih =>
    by_cases near : nearTo c rest = []
    · rwa [growComponent_of_none_near near]
    · rw [growComponent_of_some_near near]
      exact ih (round c rest start)

theorem nearTo_append_farFrom_perm (c rest : List Node) : (nearTo c rest ++ farFrom c rest).Perm rest :=
  List.filter_append_perm _ rest

theorem farFrom_length_lt {c rest : List Node} (someNear : nearTo c rest ≠ []) :
    (farFrom c rest).length < rest.length := by
  have total := (nearTo_append_farFrom_perm c rest).length_eq
  have positive := List.length_pos_of_ne_nil someNear
  rw [List.length_append] at total
  omega

theorem growComponent_perm (fuel : Nat) (c rest : List Node) :
    ((growComponent fuel c rest).1 ++ (growComponent fuel c rest).2).Perm (c ++ rest) := by
  refine growComponent_preserves (P := fun c' rest' => (c' ++ rest').Perm (c ++ rest)) (fun c' rest' kept => ?_) fuel
    (List.Perm.refl _)
  rw [List.append_assoc]
  exact ((nearTo_append_farFrom_perm c' rest').append_left c').trans kept

theorem growComponent_sublist (fuel : Nat) (c rest : List Node) : (growComponent fuel c rest).2.Sublist rest :=
  growComponent_preserves (P := fun _ rest' => rest'.Sublist rest) (fun _ _ kept => List.filter_sublist.trans kept) fuel
    (List.Sublist.refl _)

theorem subset_growComponent (fuel : Nat) (c rest : List Node) : c ⊆ (growComponent fuel c rest).1 :=
  growComponent_preserves (P := fun c' _ => c ⊆ c') (fun _ _ kept => List.subset_append_of_subset_left _ kept) fuel
    (List.Subset.refl _)

theorem growComponent_connected (fuel : Nat) {c : List Node} (connected : Connected c) (rest : List Node) :
    Connected (growComponent fuel c rest).1 := by
  refine growComponent_preserves (P := fun c' _ => Connected c') (fun c' rest' kept => kept.append fun n hn => ?_) fuel
    connected
  exact List.any_eq_true.mp (List.mem_filter.mp hn).2

/-- With a round for each node outside, the growth ends only when no node outside is adjacent to the component: every
round but the last takes a node in. -/
theorem growComponent_separated {fuel : Nat} {c rest : List Node} (enough : rest.length ≤ fuel) :
    ∀ x ∈ (growComponent fuel c rest).1, ∀ y ∈ (growComponent fuel c rest).2, x.adjacent y = false := by
  induction fuel generalizing c rest with
  | zero =>
    rw [List.eq_nil_of_length_eq_zero (Nat.le_zero.mp enough)]
    exact fun _ _ _ outside => absurd outside List.not_mem_nil
  | succ fuel ih =>
    by_cases near : nearTo c rest = []
    · rw [growComponent_of_none_near near]
      intro x hx y hy
      have apart : ¬ c.any y.adjacent = true := List.filter_eq_nil_iff.mp near y hy
      rw [x.adjacent_comm y, ← Bool.not_eq_true]
      exact fun adjacent => apart (List.any_eq_true.mpr ⟨x, hx, adjacent⟩)
    · rw [growComponent_of_some_near near]
      exact ih (Nat.le_of_lt_succ ((farFrom_length_lt near).trans_le enough))

/-! ## The components of a list of nodes (R56, R57) -/

/-- The component of the first node, and the nodes outside it. -/
abbrev firstComponent (first : Node) (rest : List Node) : List Node × List Node :=
  growComponent rest.length [first] rest

@[simp] theorem componentsOf_nil (fuel : Nat) : componentsOf fuel [] = [] := by
  cases fuel <;> rfl

theorem componentsOf_cons (fuel : Nat) (first : Node) (rest : List Node) :
    componentsOf (fuel + 1) (first :: rest) =
      (firstComponent first rest).1 :: componentsOf fuel (firstComponent first rest).2 := rfl

theorem mem_firstComponent (first : Node) (rest : List Node) : first ∈ (firstComponent first rest).1 :=
  subset_growComponent _ _ _ (List.mem_singleton_self first)

/-- `parts` are the components of `nodes` (R56), in the order of their first nodes if `nodes` stand in scan order
(R57). -/
structure AreComponents (nodes : List Node) (parts : List (List Node)) : Prop where
  covers : parts.flatten.Perm nodes
  nonempty : ∀ c ∈ parts, c ≠ []
  separated : parts.Pairwise (fun a b => ∀ x ∈ a, ∀ y ∈ b, x.adjacent y = false)
  connected : ∀ c ∈ parts, Connected c
  ordered : nodes.Pairwise Node.ScanBefore → parts.Pairwise (fun a b => ∃ x ∈ a, ∀ y ∈ b, x.ScanBefore y)

theorem AreComponents.nil : AreComponents [] [] where
  covers := .refl _
  nonempty := List.forall_mem_nil _
  separated := .nil
  connected := List.forall_mem_nil _
  ordered _ := .nil

theorem AreComponents.mem_of_mem {nodes : List Node} {parts : List (List Node)} (h : AreComponents nodes parts)
    {c : List Node} (hc : c ∈ parts) {y : Node} (hy : y ∈ c) : y ∈ nodes :=
  h.covers.mem_iff.mp (List.mem_flatten.mpr ⟨c, hc, hy⟩)

/-- The component of the first node goes in front of the components of the nodes outside it. -/
theorem AreComponents.cons {first : Node} {rest : List Node} {parts : List (List Node)}
    (h : AreComponents (firstComponent first rest).2 parts) :
    AreComponents (first :: rest) ((firstComponent first rest).1 :: parts) where
  covers := (h.covers.append_left _).trans (growComponent_perm _ _ _)
  nonempty := List.forall_mem_cons.mpr ⟨List.ne_nil_of_mem (mem_firstComponent first rest), h.nonempty⟩
  separated := .cons
    (fun _ hb x hx y hy => growComponent_separated (Nat.le_refl _) x hx y (h.mem_of_mem hb hy)) h.separated
  connected := List.forall_mem_cons.mpr ⟨growComponent_connected _ (connected_singleton first) rest, h.connected⟩
  ordered sorted := by
    obtain ⟨firstBefore, restSorted⟩ := List.pairwise_cons.mp sorted
    have farInRest := growComponent_sublist rest.length [first] rest
    exact .cons
      (fun _ hb => ⟨first, mem_firstComponent first rest, fun y hy =>
        firstBefore y (farInRest.subset (h.mem_of_mem hb hy))⟩)
      (h.ordered (restSorted.sublist farInRest))

theorem componentsOf_areComponents {fuel : Nat} {nodes : List Node} (enough : nodes.length ≤ fuel) :
    AreComponents nodes (componentsOf fuel nodes) := by
  induction fuel generalizing nodes with
  | zero =>
    rw [List.eq_nil_of_length_eq_zero (Nat.le_zero.mp enough), componentsOf_nil]
    exact .nil
  | succ fuel ih =>
    cases nodes with
    | nil => exact componentsOf_nil _ ▸ .nil
    | cons first rest =>
      have fewer := (growComponent_sublist rest.length [first] rest).length_le
      exact componentsOf_cons fuel first rest ▸ (ih (fewer.trans (Nat.le_of_succ_le_succ enough))).cons

/-- Settles O28: the on nodes stand in scan order, and the growth from the first of them takes out one component after
another. -/
theorem componentsAreTheConnectedOnNodes : Obligations.ComponentsAreTheConnectedOnNodes := by
  intro threshold image nodes parts
  have h : AreComponents nodes parts := componentsOf_areComponents (Nat.le_refl _)
  exact ⟨fun _ => mem_onNodes, onNodes_nodup threshold image, fun _ _ => Node.adjacent_iff, h.covers, h.nonempty,
    h.separated, h.connected, h.ordered (onNodes_pairwise_scanBefore threshold image)⟩

end Sys2Proof.Machine
end

section
/-! PROOFS. What an entry of a class table matches, and the class that a table gives a region (R73, R74). -/

namespace Sys2Proof.Machine

/-! ## Matching an entry (R73) -/

@[simp] theorem bounded_iff {lo hi : Nat} {v : Int} : bounded lo hi v = true ↔ (lo : Int) ≤ v ∧ v ≤ (hi : Int) := by
  simp [bounded]

theorem ClassEntry.accepts_iff {e : ClassEntry} {r : Region} :
    e.accepts r = true ↔ e.used = true ∧ e.areaMin ≤ r.area ∧ r.area ≤ e.areaMax ∧
      e.peakMin ≤ r.peak ∧ r.peak ≤ e.peakMax ∧ e.widthMin ≤ r.width ∧ r.width ≤ e.widthMax ∧
      e.heightMin ≤ r.height ∧ r.height ≤ e.heightMax ∧ e.densityMin ≤ r.density ∧ r.density ≤ e.densityMax ∧
      (e.edge = .any ∨ (e.edge = .edge ∧ r.edge = true) ∨ (e.edge = .interior ∧ r.edge = false)) := by
  cases condition : e.edge <;> simp [ClassEntry.accepts, condition, and_assoc]

/-! ## The lowest matching entry (R74) -/

theorem classify_of_none_accepts {table : List ClassEntry} {r : Region}
    (noneAccepts : ∀ e ∈ table, e.accepts r = false) : classify table r = .unknown := by
  have notFound : table.find? (·.accepts r) = none := List.find?_eq_none.mpr (by simpa using noneAccepts)
  rw [classify, notFound]

theorem classify_of_lowest_accepts {table : List ClassEntry} {r : Region} {n : Nat} {e : ClassEntry}
    (entry : table[n]? = some e) (accepts : e.accepts r = true)
    (lowest : ∀ m d, m < n → table[m]? = some d → d.accepts r = false) : classify table r = e.result := by
  obtain ⟨inTable, rfl⟩ := List.getElem?_eq_some_iff.mp entry
  have found : table.find? (·.accepts r) = some table[n] :=
    List.find?_eq_some_iff_getElem.mpr ⟨accepts, n, inTable, rfl, fun m below => by
      simpa using lowest m _ below (List.getElem?_eq_getElem (below.trans inTable))⟩
  rw [classify, found]

/-- Settles O29: the search along the table stops at the lowest entry whose bounds and edge condition the region
meets. -/
theorem lowestMatchingEntryNamesTheClass : Obligations.LowestMatchingEntryNamesTheClass :=
  ⟨fun _ _ => ClassEntry.accepts_iff,
    fun _ _ => ⟨classify_of_none_accepts, fun _ _ => classify_of_lowest_accepts⟩⟩

end Sys2Proof.Machine
end

section
/-! PROOFS. The pairs of a frame and the order in which they are taken (R87, R88). -/

namespace Sys2Proof.Machine

/-! ## The eligible pairs (R87, R88) -/

theorem mem_eligiblePairs {i : SurfaceId} {g : Geometry} {gate n : Nat} {slots : List Slot} {regions : List Region}
    {p : Pair} :
    p ∈ eligiblePairs i g gate n slots regions ↔
      ∃ k r, slots[p.slot]? = some k ∧ regions[p.region]? = some r ∧ k.candidate i = true ∧
        p.dist = distance (predict n k.x k.vx g.wx) (predict n k.y k.vy g.wy) r.x r.y ∧ p.dist ≤ gate := by
  simp only [eligiblePairs, List.mem_flatMap, Prod.exists, List.mk_mem_zipIdx_iff_getElem?, List.mem_ite_nil_right,
    List.mem_filterMap, Option.ite_none_right_eq_some, Option.some.injEq]
  constructor
  · rintro ⟨k, a, slotAt, candidate, r, b, regionAt, near, rfl⟩
    exact ⟨k, r, slotAt, regionAt, candidate, rfl, near⟩
  · rintro ⟨k, r, slotAt, regionAt, candidate, far, near⟩
    exact ⟨k, p.slot, slotAt, candidate, r, p.region, regionAt, far ▸ near, by rw [← far]⟩

/-! ## The order of taking (R88) -/

theorem Pair.before_iff {p q : Pair} :
    p.before q = true ↔ p.dist < q.dist ∨
      (p.dist = q.dist ∧ (p.slot < q.slot ∨ (p.slot = q.slot ∧ p.region < q.region))) := by
  simp [Pair.before]

theorem Pair.before_trans {p q r : Pair} (pq : p.before q = true) (qr : q.before r = true) : p.before r = true := by
  rw [Pair.before_iff] at *
  omega

/-- The order is total: slot and region break the ties of distance, and two pairs that agree in all three are one. -/
theorem Pair.before_or_eq_or_before (p q : Pair) : p.before q = true ∨ p = q ∨ q.before p = true := by
  rw [Pair.before_iff, Pair.before_iff, Pair.mk.injEq]
  omega

theorem firstPair_eq_none_iff {pairs : List Pair} : firstPair pairs = none ↔ pairs = [] := by
  cases pairs with
  | nil => simp [firstPair]
  | cons p ps =>
    simp only [firstPair, reduceCtorEq, iff_false]
    split
    · exact Option.some_ne_none p
    · split <;> exact Option.some_ne_none _

/-- The first pair is one of the pairs, and comes before every other. -/
theorem firstPair_first {pairs : List Pair} {p : Pair} (first : firstPair pairs = some p) :
    p ∈ pairs ∧ ∀ q ∈ pairs, q = p ∨ p.before q = true := by
  induction pairs generalizing p with
  | nil => simp [firstPair] at first
  | cons head rest ih =>
    cases restFirst : firstPair rest with
    | none =>
      obtain rfl := firstPair_eq_none_iff.mp restFirst
      obtain rfl : head = p := by simpa [firstPair] using first
      simp
    | some f =>
      obtain ⟨inRest, beforeRest⟩ := ih restFirst
      by_cases earlier : f.before head = true
      · obtain rfl : f = p := by simpa [firstPair, restFirst, earlier] using first
        exact ⟨List.mem_cons_of_mem _ inRest, List.forall_mem_cons.mpr ⟨.inr earlier, beforeRest⟩⟩
      · obtain rfl : head = p := by simpa [firstPair, restFirst, earlier] using first
        have fromHead : ∀ q ∈ rest, q = head ∨ head.before q = true := by
          obtain before | rfl | before := head.before_or_eq_or_before f
          · intro q hq
            obtain rfl | later := beforeRest q hq
            · exact .inr before
            · exact .inr (Pair.before_trans before later)
          · exact beforeRest
          · exact absurd before earlier
        exact ⟨List.mem_cons_self, List.forall_mem_cons.mpr ⟨.inl rfl, fromHead⟩⟩

/-! ## Taking the pairs (R88) -/

/-- The pairs left when `p` is taken: those with another slot and another region. -/
abbrev Pair.leaves (p : Pair) (pairs : List Pair) : List Pair :=
  pairs.filter (fun q => q.slot != p.slot && q.region != p.region)

theorem Pair.mem_leaves {p q : Pair} {pairs : List Pair} :
    q ∈ p.leaves pairs ↔ q ∈ pairs ∧ q.slot ≠ p.slot ∧ q.region ≠ p.region := by
  simp [Pair.leaves]

theorem Pair.leaves_length_lt {p : Pair} {pairs : List Pair} (taken : p ∈ pairs) :
    (p.leaves pairs).length < pairs.length :=
  List.length_filter_lt_length_iff_exists.mpr ⟨p, taken, by simp⟩

theorem takePairs_of_first {pairs : List Pair} {p : Pair} (first : firstPair pairs = some p) (fuel : Nat) :
    takePairs (fuel + 1) pairs = p :: takePairs fuel (p.leaves pairs) := by
  rw [takePairs, first]

/-- `taken` is what R88 takes of `pairs`. -/
structure AreTaken (pairs taken : List Pair) : Prop where
  eligible : ∀ p ∈ taken, p ∈ pairs
  ordered : taken.Pairwise (fun p q => p.slot ≠ q.slot ∧ p.region ≠ q.region ∧ p.before q = true)
  maximal : ∀ p ∈ pairs, p ∈ taken ∨ ∃ q ∈ taken, (q.slot = p.slot ∨ q.region = p.region) ∧ q.before p = true

theorem AreTaken.nil : AreTaken [] [] where
  eligible := List.forall_mem_nil _
  ordered := .nil
  maximal := List.forall_mem_nil _

/-- The first pair goes in front of what is taken of the pairs it leaves: it comes before all of them, and each pair it
does not leave shares its slot or region. -/
theorem AreTaken.cons {pairs taken : List Pair} {p : Pair} (first : firstPair pairs = some p)
    (h : AreTaken (p.leaves pairs) taken) : AreTaken pairs (p :: taken) := by
  obtain ⟨inPairs, beforeOthers⟩ := firstPair_first first
  refine ⟨List.forall_mem_cons.mpr ⟨inPairs, fun q hq => (Pair.mem_leaves.mp (h.eligible q hq)).1⟩,
    .cons (fun q hq => ?apart) h.ordered, fun q hq => ?covered⟩
  case apart =>
    obtain ⟨hq, otherSlot, otherRegion⟩ := Pair.mem_leaves.mp (h.eligible q hq)
    have before := (beforeOthers q hq).resolve_left fun same => otherSlot (congrArg Pair.slot same)
    exact ⟨otherSlot.symm, otherRegion.symm, before⟩
  case covered =>
    obtain rfl | before := beforeOthers q hq
    · exact .inl List.mem_cons_self
    · by_cases left : q ∈ p.leaves pairs
      · obtain also | ⟨r, hr, earlier⟩ := h.maximal q left
        · exact .inl (List.mem_cons_of_mem _ also)
        · exact .inr ⟨r, List.mem_cons_of_mem _ hr, earlier⟩
      · have shares : p.slot = q.slot ∨ p.region = q.region := by
          by_contra apart
          obtain ⟨otherSlot, otherRegion⟩ := not_or.mp apart
          exact left (Pair.mem_leaves.mpr ⟨hq, Ne.symm otherSlot, Ne.symm otherRegion⟩)
        exact .inr ⟨p, List.mem_cons_self, shares, before⟩

/-- With a round for each pair, the rounds end only when no pair is left: each takes one out. -/
theorem takePairs_areTaken {fuel : Nat} {pairs : List Pair} (enough : pairs.length ≤ fuel) :
    AreTaken pairs (takePairs fuel pairs) := by
  induction fuel generalizing pairs with
  | zero =>
    rw [List.eq_nil_of_length_eq_zero (Nat.le_zero.mp enough)]
    exact .nil
  | succ fuel ih =>
    cases first : firstPair pairs with
    | none =>
      obtain rfl := firstPair_eq_none_iff.mp first
      exact .nil
    | some p =>
      have fewer := Pair.leaves_length_lt (firstPair_first first).1
      rw [takePairs_of_first first]
      exact .cons first (ih (Nat.le_of_lt_succ (fewer.trans_le enough)))

/-- Settles O31: each round takes the first of the pairs left and drops those that share its slot or region, until none
is left. -/
theorem pairingTakesTheNearestFirst : Obligations.PairingTakesTheNearestFirst := by
  intro i g gate n slots regions taken eligible
  have h : AreTaken (eligiblePairs i g gate n slots regions) taken := takePairs_areTaken (Nat.le_refl _)
  have eligible_iff (p : Pair) : p ∈ eligiblePairs i g gate n slots regions ↔ eligible p := mem_eligiblePairs
  refine ⟨fun p hp => (eligible_iff p).mp (h.eligible p hp), h.ordered.imp ?order, fun p hp => ?maximal⟩
  case order =>
    rintro p q ⟨otherSlot, otherRegion, before⟩
    rw [Pair.before_iff] at before
    exact ⟨otherSlot, otherRegion, by omega⟩
  case maximal => simpa only [Pair.before_iff] using h.maximal p ((eligible_iff p).mpr hp)

end Sys2Proof.Machine
end

section
/-! PROOFS. The outcome of an offer to the queue, case by case (R163). -/

namespace Sys2Proof.Machine

variable {s : State}

/-! ## The kinds that wait for room (R163) -/

/-- FRAME_REPORT has code 1 and END code 5, and these two kinds alone are deferred (R163, R189). -/
theorem Body.defers_iff_kindCode (b : Body) : b.defers = true ↔ b.kindCode = 1 ∨ b.kindCode = 5 := by
  cases b <;> simp [Body.defers, Body.kindCode]

/-! ## One equation per outcome (R163) -/

/-- Below almost_full no merge is tried. -/
theorem State.offer_of_below_almostFull (below : s.generalCount < s.queueBlock.almostFull) (q : Byte)
    (t : BitVec 16) (b : Body) : s.offer q t b = (.appended, s.append q t b) :=
  if_pos below

/-- From almost_full on, a merge comes before everything else. -/
theorem State.offer_of_merged (atLeast : s.queueBlock.almostFull ≤ s.generalCount) {q : Byte} {t : BitVec 16}
    {b : Body} {records : List Record} (merges : s.mergedQueue q t b = some records) :
    s.offer q t b = (.merged, { s.withQueue records with mergedCount := bump s.mergedCount 1 }) := by
  simp [State.offer, atLeast.not_gt, merges]

section NotMerged

/-! From almost_full on, with no record to merge with, the count and the kind decide. -/

variable {q : Byte} {t : BitVec 16} {b : Body} (atLeast : s.queueBlock.almostFull ≤ s.generalCount)
  (unmerged : s.mergedQueue q t b = none)
include atLeast unmerged

/-- Below 59 the record still finds room. -/
theorem State.offer_of_room (room : s.generalCount < 59) : s.offer q t b = (.appended, s.append q t b) := by
  simp [State.offer, atLeast.not_gt, unmerged, room]

/-- At the limit a FRAME_REPORT or END is left to its source. -/
theorem State.offer_of_full_defers (full : 59 ≤ s.generalCount) (waits : b.defers = true) :
    s.offer q t b = (.deferred, { s with deferredCount := bump s.deferredCount 1 }) := by
  simp [State.offer, atLeast.not_gt, unmerged, full.not_gt, waits]

/-- At the limit a record of any other kind is lost, counted and raised as QUEUE_DROP. -/
theorem State.offer_of_full_drops (full : 59 ≤ s.generalCount) (lost : b.defers = false) :
    s.offer q t b = (.dropped,
      { s with droppedCount := bump s.droppedCount 1 }.raiseFault .queueDrop .queue q b.kindCode) := by
  simp [State.offer, atLeast.not_gt, unmerged, full.not_gt, lost]

end NotMerged

/-- Settles O39: one equation of the offer for each row of R163's table, the kinds read off their codes. -/
theorem offersMeetTheirOutcome : Obligations.OffersMeetTheirOutcome := by
  have notInDefaultMask : QueueBlock.atReset.captureMask.getLsbD (codeIn faultKindOrder .queueDrop) = false := by
    decide
  refine ⟨notInDefaultMask, fun s q t b => ⟨fun below => State.offer_of_below_almostFull below q t b, fun atLeast => ?_⟩⟩
  refine ⟨fun records merges => State.offer_of_merged atLeast merges, fun unmerged => ?_⟩
  refine ⟨State.offer_of_room atLeast unmerged, fun full => ⟨fun waits => ?deferred, fun notReport notEnd => ?dropped⟩⟩
  case deferred =>
    exact State.offer_of_full_defers atLeast unmerged full (b.defers_iff_kindCode.mpr waits)
  case dropped =>
    have lost : b.defers = false :=
      Bool.eq_false_iff.mpr fun waits => (b.defers_iff_kindCode.mp waits).elim notReport notEnd
    exact State.offer_of_full_drops atLeast unmerged full lost

end Sys2Proof.Machine
end

section
/-! PROOFS. The request at the head that has nothing to wait for, and what DESCRIBE and CLEAR_FAULT make of it (R175,
R176, R179, R182). -/

namespace Sys2Proof.Machine

variable {s : State} {r : Request} {code : Nat}

/-! ## The head of the buffer (R175, R176) -/

/-- Only a REBASE, a LOAD_TABLE and a SET_PARAMS can have frames to wait for (R10, R176). -/
theorem State.headWaits_of_other_code (atHead : s.AtHead r code) (notRebase : code ≠ 4) (notLoad : code ≠ 5)
    (notSet : code ≠ 7) : s.headWaits = false := by
  obtain ⟨-, head, rfl, passes⟩ := atHead
  obtain ⟨rest, buffer⟩ := List.head?_eq_some_iff.mp head
  -- `notRebase`, `notLoad` and `notSet` take the code past the arms that claim frames.
  have noClaim : s.headClaim = none := by
    simp only [State.headClaim, buffer, passes, Option.isSome_none, Bool.false_eq_true, if_false]
  simp only [State.headWaits, noClaim]

/-- A row executes its own request once that is at the head, passes R175's checks and waits for no frame. -/
theorem State.runHead_of_atHead (atHead : s.AtHead r code) (waitsNot : s.headWaits = false)
    (run : State → Request → State) : s.runHead code run = run s r := by
  obtain ⟨started, head, ownCode, passes⟩ := atHead
  obtain ⟨rest, buffer⟩ := List.head?_eq_some_iff.mp head
  simp [State.runHead, buffer, started, ownCode, passes, waitsNot]

/-! ## DESCRIBE (R179) -/

theorem exec_describe : exec .describe s = .next (s.runHead 1 State.runDescribe) := rfl

/-- The surfaces byte: bit 0 is PAD, always there, and bit 1 is PANEL (R179, R189). -/
theorem flagByte_padAnd (panel : Bool) : flagByte [true, panel] = if panel then 3 else 1 := by
  cases panel <;> rfl

theorem flagByte_single (b : Bool) : flagByte [b] = if b then 1 else 0 := by
  cases b <;> rfl

/-- DESCRIBE's data byte by byte: 2240 is 0x08C0 and the capacity 3072 is 0x0C00, low byte first (R187). -/
theorem State.description_bytes : s.description =
    [0xC0, 0x08, 1, (if s.straps.panelEn then 3 else 1), BitVec.ofNat 8 s.straps.refsel.toNat,
      (if s.straps.linkPhase then 1 else 0), 16, 64, 59, 4, 24, 16, 8, 16, 128, 0x00, 0x0C] := by
  have partCode : le16 2240 = [0xC0, 0x08] := by decide
  have nodes : le16 3072 = [0x00, 0x0C] := by decide
  simp only [State.description, capacities, partCode, nodes, flagByte_padAnd, flagByte_single, BitVec.ofNat_toNat,
    List.cons_append, List.nil_append]

/-- Settles O55: DESCRIBE waits for no frame, and its answer carries the description. -/
theorem describeNamesThePart : Obligations.DescribeNamesThePart := by
  intro s r atHead
  have waitsNot := State.headWaits_of_other_code atHead (by decide) (by decide) (by decide)
  rw [exec_describe, State.runHead_of_atHead atHead waitsNot, State.runDescribe, State.description_bytes]

/-! ## CLEAR_FAULT (R182) -/

theorem exec_clearFault : exec .clearFault s = .next (s.runHead 10 State.runClearFault) := rfl

theorem State.runClearFault_of_flag_clear (clear : (r.payload.getD 0 0).getLsbD 0 = false) :
    s.runClearFault r = (s.withFault none).answer r .ok [] := by
  simp only [State.runClearFault, clear, Bool.false_eq_true, if_false]

theorem State.runClearFault_of_flag_set (set : (r.payload.getD 0 0).getLsbD 0 = true) :
    s.runClearFault r = (s.withFault none).clearCounters.answer r .ok [] := by
  simp only [State.runClearFault, set, if_true]

/-- Settles O57: CLEAR_FAULT waits for no frame, and bit 0 of its operand alone decides about the counters. -/
theorem clearFaultEmptiesTheRecord : Obligations.ClearFaultEmptiesTheRecord := by
  intro s r atHead
  have waitsNot := State.headWaits_of_other_code atHead (by decide) (by decide) (by decide)
  rw [exec_clearFault, State.runHead_of_atHead atHead waitsNot]
  refine ⟨fun clear => ?recordAlone, fun set => ?countersToo⟩
  case recordAlone =>
    rw [State.runClearFault_of_flag_clear clear]
    rfl
  case countersToo =>
    rw [State.runClearFault_of_flag_set set]
    rfl

end Sys2Proof.Machine
end

section
/-! PROOFS. The counts of the report queue and what the queue's operations do to them (R162, R163, R166, R172). -/

namespace Sys2Proof.Machine

variable {s t : State}

/-! ## The three classes of records (R162) -/

theorem Body.isGeneral_eq_kindCode (b : Body) : b.isGeneral = decide (b.kindCode < 10) := by cases b <;> rfl

theorem Body.isResponse_eq_kindCode (b : Body) : b.isResponse = decide (b.kindCode = 10) := by cases b <;> rfl

theorem Body.isAlert_eq_kindCode (b : Body) : b.isAlert = decide (b.kindCode = 11) := by cases b <;> rfl

/-- Every record is of exactly one class, so the depth is the sum of the three counts (R162). -/
theorem State.depth_eq (s : State) : s.depth = s.generalCount + s.responseCount + s.alertCount := by
  unfold State.depth State.generalCount State.responseCount State.alertCount
  induction s.queue with
  | nil => rfl
  | cons r rest ih =>
    rw [List.length_cons, List.countP_cons, List.countP_cons, List.countP_cons, ih]
    cases r.body <;> simp [Body.isGeneral, Body.isResponse, Body.isAlert] <;> omega

/-- The budget as a sum of its three parts (R172). -/
theorem State.budget_eq (s : State) :
    s.budget = s.buffer.length + s.pendingCapture.isSome.toNat + s.responseCount := by
  unfold State.budget
  cases s.pendingCapture <;> rfl

/-- The bound on the depth follows from the bounds on the three counts (R162). -/
theorem State.queueBounded_iff : s.QueueBounded ↔
    s.queueBlock.almostFull ≤ 59 ∧ s.generalCount ≤ 59 ∧ s.budget ≤ 4 ∧ s.alertCount ≤ 1 := by
  have depth := s.depth_eq
  have responses : s.responseCount ≤ s.budget := by have := s.budget_eq; omega
  constructor
  · rintro ⟨block, general, budget, alert, -⟩
    exact ⟨block, general, budget, alert⟩
  · rintro ⟨block, general, budget, alert⟩
    exact ⟨block, general, budget, alert, by omega⟩

/-- Two queues whose records have the same kinds in order have the same counts. -/
theorem State.counts_eq_of_kinds
    (kinds : t.queue.map (fun r => r.body.kindCode) = s.queue.map (fun r => r.body.kindCode)) :
    t.generalCount = s.generalCount ∧ t.responseCount = s.responseCount ∧ t.alertCount = s.alertCount := by
  have count (p : Nat → Bool) : t.queue.countP (fun r => p r.body.kindCode) =
      s.queue.countP (fun r => p r.body.kindCode) := by
    have := congrArg (List.countP p) kinds
    rwa [List.countP_map, List.countP_map] at this
  refine ⟨?_, ?_, ?_⟩
  · simpa [State.generalCount, Body.isGeneral_eq_kindCode] using count (fun n => decide (n < 10))
  · simpa [State.responseCount, Body.isResponse_eq_kindCode] using count (fun n => decide (n = 10))
  · simpa [State.alertCount, Body.isAlert_eq_kindCode] using count (fun n => decide (n = 11))

/-! ## Appending (R163, R166) -/

@[simp] theorem State.append_generalCount (q : Byte) (u : BitVec 16) (b : Body) :
    (s.append q u b).generalCount = s.generalCount + if b.isGeneral then 1 else 0 := by
  simp [State.generalCount, List.countP_append, List.countP_cons]

@[simp] theorem State.append_responseCount (q : Byte) (u : BitVec 16) (b : Body) :
    (s.append q u b).responseCount = s.responseCount + if b.isResponse then 1 else 0 := by
  simp [State.responseCount, List.countP_append, List.countP_cons]

@[simp] theorem State.append_alertCount (q : Byte) (u : BitVec 16) (b : Body) :
    (s.append q u b).alertCount = s.alertCount + if b.isAlert then 1 else 0 := by
  simp [State.alertCount, List.countP_append, List.countP_cons]

theorem State.alertCount_eq_zero_iff : s.alertCount = 0 ↔ s.alertPresent = false := by
  simp [State.alertCount, State.alertPresent, List.countP_eq_zero]

/-- The items that the queue's bounds speak of. -/
theorem State.QueueBounded.of_same (bounded : s.QueueBounded) (queue : t.queue = s.queue)
    (block : t.queueBlock.almostFull = s.queueBlock.almostFull) (buffer : t.buffer = s.buffer)
    (capture : t.pendingCapture = s.pendingCapture) : t.QueueBounded := by
  simpa only [State.QueueBounded, State.generalCount, State.budget, State.responseCount, State.alertCount, State.depth,
    queue, block, buffer, capture] using bounded

/-- A general record may be appended below 59. -/
theorem State.QueueBounded.append_general (bounded : s.QueueBounded) (room : s.generalCount < 59) (q : Byte)
    (u : BitVec 16) {b : Body} (general : b.isGeneral = true) : (s.append q u b).QueueBounded := by
  have notResponse : b.isResponse = false := by cases b <;> simp_all [Body.isGeneral, Body.isResponse]
  have notAlert : b.isAlert = false := by cases b <;> simp_all [Body.isGeneral, Body.isAlert]
  obtain ⟨block, -, budget, alert⟩ := State.queueBounded_iff.mp bounded
  refine State.queueBounded_iff.mpr ⟨block, ?_, ?_, ?_⟩
  · simp [general]; omega
  · simpa [State.budget_eq, notResponse] using budget
  · simpa [notAlert] using alert

/-- An ALERT is appended only when none is present (R166, R181). -/
theorem State.QueueBounded.requestAlert (bounded : s.QueueBounded) (f : FaultRecord) :
    (s.requestAlert f).QueueBounded := by
  obtain ⟨-, h⟩ | ⟨absent, h⟩ := s.requestAlert_cases f
  · rwa [h]
  · obtain ⟨block, general, budget, -⟩ := State.queueBounded_iff.mp bounded
    have none : s.alertCount = 0 := State.alertCount_eq_zero_iff.mpr absent
    rw [h]
    refine State.queueBounded_iff.mpr ⟨block, ?_, ?_, ?_⟩
    · simpa [Body.isGeneral] using general
    · simpa [State.budget_eq, Body.isResponse] using budget
    · simp [Body.isAlert, none]

theorem State.QueueBounded.raiseFault (bounded : s.QueueBounded) (k : FaultKind) (src : FaultSource) (q : Byte)
    (d : Nat) : (s.raiseFault k src q d).QueueBounded := by
  obtain ⟨-, h⟩ | ⟨-, ⟨f, -, h⟩ | ⟨-, h⟩⟩ := s.raiseFault_cases k src q d
  · rwa [h]
  · rw [h]; exact bounded.of_same rfl rfl rfl rfl
  · rw [h]
    have captured : (s.withFault (some { kind := k, source := src, sequence := q, detail := d, timestamp := low16 s.time,
                                         more := false })).QueueBounded := bounded.of_same rfl rfl rfl rfl
    exact captured.requestAlert _

/-! ## Merging (R164, R165) -/

/-- A merge gives a record of the target's kind. -/
theorem Body.mergeWith_kindCode {new target merged : Body} (merge : new.mergeWith target = some merged) :
    merged.kindCode = target.kindCode := by
  unfold Body.mergeWith at merge
  split at merge
  case h_4 => simp at merge
  all_goals
    obtain ⟨x, -, rfl⟩ := Option.map_eq_some_iff.mp merge
    rfl

/-- What a merge does to the queue: one record, unread and the newest of its targets, takes the new sequence, timestamp
and merged body, and keeps its place and placement time (R164, R165). -/
theorem State.mergedQueue_eq_some {q : Byte} {u : BitVec 16} {b : Body} {records : List Record}
    (merges : s.mergedQueue q u b = some records) :
    ∃ i target merged, lastWhere b.targets s.queue = some i ∧ ¬ (i = 0 ∧ s.delivering = true) ∧
      s.queue[i]? = some target ∧ b.mergeWith target.body = some merged ∧
      records = s.queue.set i { target with sequence := q, timestamp := u, body := merged } := by
  unfold State.mergedQueue at merges
  cases last : lastWhere b.targets s.queue with
  | none => simp [last] at merges
  | some i =>
    simp only [last] at merges
    split at merges
    · simp at merges
    next unread =>
      cases at_i : s.queue[i]? with
      | none => simp [at_i] at merges
      | some target =>
        simp only [at_i, Option.map_eq_some_iff] at merges
        obtain ⟨merged, merge, rfl⟩ := merges
        exact ⟨i, target, merged, rfl, by simpa using unread, at_i, merge, rfl⟩

/-- A merge leaves the kinds of all records as they were. -/
theorem State.mergedQueue_kinds {q : Byte} {u : BitVec 16} {b : Body} {records : List Record}
    (merges : s.mergedQueue q u b = some records) :
    records.map (fun r => r.body.kindCode) = s.queue.map (fun r => r.body.kindCode) := by
  obtain ⟨i, target, merged, -, -, at_i, merge, rfl⟩ := State.mergedQueue_eq_some merges
  obtain ⟨inside, rfl⟩ := List.getElem?_eq_some_iff.mp at_i
  have sameKind : merged.kindCode = (s.queue.map (fun r => r.body.kindCode))[i]'(by simpa using inside) := by
    rw [List.getElem_map, Body.mergeWith_kindCode merge]
  rw [List.map_set]
  dsimp only
  rw [sameKind, List.set_getElem_self]

/-- Whatever the queue answers to a general record, its bounds hold (R163). -/
theorem State.QueueBounded.offer (bounded : s.QueueBounded) (q : Byte) (u : BitVec 16) {b : Body}
    (general : b.isGeneral = true) : (s.offer q u b).2.QueueBounded := by
  obtain ⟨h, room⟩ | ⟨r, merges, -, h⟩ | ⟨-, -, h⟩ | ⟨-, -, h⟩ := s.offer_cases q u b
  · rw [h]
    exact bounded.append_general (by obtain ⟨block, -⟩ := bounded; omega) q u general
  · rw [h]
    obtain ⟨generals, responses, alerts⟩ :=
      State.counts_eq_of_kinds (s := s) (t := s.withQueue r) (State.mergedQueue_kinds merges)
    have same : (s.withQueue r).QueueBounded := by
      rw [State.queueBounded_iff] at bounded ⊢
      simpa [State.budget_eq, generals, responses, alerts] using bounded
    exact same.of_same rfl rfl rfl rfl
  · rw [h]; exact bounded.of_same rfl rfl rfl rfl
  · rw [h]
    have counted : { s with droppedCount := bump s.droppedCount 1 }.QueueBounded := bounded.of_same rfl rfl rfl rfl
    exact counted.raiseFault _ _ _ _

/-! ## The response budget (R172) -/

/-- A RESPONSE takes the place of the request at the head (R175). -/
theorem State.QueueBounded.answered (bounded : s.QueueBounded) (waiting : s.buffer ≠ []) (tag code : Byte)
    (rc : ResponseCode) (d : List Byte) : (s.popHead.respond tag code rc d).QueueBounded := by
  obtain ⟨block, general, budget, alert⟩ := State.queueBounded_iff.mp bounded
  have pops : s.buffer.tail.length + 1 = s.buffer.length := by
    cases h : s.buffer <;> simp_all
  refine State.queueBounded_iff.mpr ⟨block, ?_, ?_, ?_⟩
  · simpa [State.respond, Body.isGeneral, State.generalCount] using general
  · simp [State.respond, State.budget_eq, Body.isResponse, State.responseCount] at budget ⊢; omega
  · simpa [State.respond, Body.isAlert, State.alertCount] using alert

/-- A RESPONSE takes the place of the pending capture (R48, R52). -/
theorem State.QueueBounded.served (bounded : s.QueueBounded) (pending : s.pendingCapture.isSome = true)
    (tag code : Byte) (rc : ResponseCode) (d : List Byte) :
    ((s.withPendingCapture none).respond tag code rc d).QueueBounded := by
  obtain ⟨block, general, budget, alert⟩ := State.queueBounded_iff.mp bounded
  refine State.queueBounded_iff.mpr ⟨block, ?_, ?_, ?_⟩
  · simpa [State.respond, Body.isGeneral, State.generalCount] using general
  · simp [State.respond, State.budget_eq, Body.isResponse, State.responseCount, pending] at budget ⊢; omega
  · simpa [State.respond, Body.isAlert, State.alertCount] using alert

/-- A pending capture takes the place of its request (R172, R183). -/
theorem State.QueueBounded.captureHeld (bounded : s.QueueBounded) (waiting : s.buffer ≠ []) (c : PendingCapture) :
    (s.popHead.withPendingCapture (some c)).QueueBounded := by
  obtain ⟨block, general, budget, alert⟩ := State.queueBounded_iff.mp bounded
  have pops : s.buffer.tail.length + 1 = s.buffer.length := by
    cases h : s.buffer <;> simp_all
  refine State.queueBounded_iff.mpr ⟨block, general, ?_, alert⟩
  simp [State.budget_eq, State.responseCount] at budget ⊢; omega

/-- A request is accepted below the budget (R172). -/
theorem State.QueueBounded.accepted (bounded : s.QueueBounded) (room : s.budget < 4) (r : Request) :
    (s.withBuffer (s.buffer ++ [r])).QueueBounded := by
  obtain ⟨block, general, -, alert⟩ := State.queueBounded_iff.mp bounded
  refine State.queueBounded_iff.mpr ⟨block, general, ?_, alert⟩
  simp [State.budget_eq, State.responseCount] at room ⊢; omega

/-- The head record leaves the queue (R169). -/
theorem State.QueueBounded.removed (bounded : s.QueueBounded) : (s.withQueue s.queue.tail).QueueBounded := by
  obtain ⟨block, general, budget, alert⟩ := State.queueBounded_iff.mp bounded
  have fewer (p : Record → Bool) : s.queue.tail.countP p ≤ s.queue.countP p :=
    (List.tail_sublist _).countP_le
  have generals := fewer (·.body.isGeneral)
  have responses := fewer (·.body.isResponse)
  have alerts := fewer (·.body.isAlert)
  refine State.queueBounded_iff.mpr ⟨block, ?_, ?_, ?_⟩
  · simp [State.generalCount] at general ⊢; omega
  · simp [State.budget_eq, State.responseCount] at budget ⊢; omega
  · simp [State.alertCount] at alert ⊢; omega

/-- SOFT_RESET leaves its own RESPONSE and at most the one of a pending capture (R186). -/
theorem State.QueueBounded.softReset (bounded : s.QueueBounded) (waiting : s.buffer ≠ []) (r : Request) :
    (s.runSoftReset r).QueueBounded := by
  obtain ⟨block, -, budget, -⟩ := State.queueBounded_iff.mp bounded
  have pops : s.buffer.tail.length + 1 = s.buffer.length := by
    cases h : s.buffer <;> simp_all
  unfold State.runSoftReset
  refine State.queueBounded_iff.mpr ?_
  cases capture : s.pendingCapture with
  | none =>
    simp [State.softResetItems, State.budget, State.respond, State.generalCount, State.responseCount,
      State.alertCount, capture, Body.isGeneral, Body.isResponse, Body.isAlert] at block budget ⊢
    omega
  | some c =>
    simp [State.softResetItems, State.budget, State.respond, State.generalCount, State.responseCount,
      State.alertCount, capture, Body.isGeneral, Body.isResponse, Body.isAlert] at block budget ⊢
    omega

/-- FULL_RESET leaves its own RESPONSE alone (R185). -/
theorem State.runFullReset_queueBounded (s : State) (r : Request) : (s.runFullReset r).QueueBounded := by
  refine State.queueBounded_iff.mpr ⟨?_, ?_, ?_, ?_⟩
  · exact (by decide : QueueBlock.atReset.almostFull ≤ 59)
  · exact Nat.zero_le _
  · exact (by decide : 1 ≤ 4)
  · exact Nat.zero_le _

end Sys2Proof.Machine
end

section
/-! PROOFS. The moves a command is made of: each changes one of the items that the invariants speak of, and keeps what
the invariants say of it. -/

namespace Sys2Proof.Machine

/-! ## One part of the state at a time -/

/-- A surface's context passes to one that keeps each of the three invariants of surfaces (R7, R13, R17, R36, R41). -/
structure Surface.Keeps (v w : Surface) : Prop where
  timed : v.Timed → w.Timed
  framer : v.framer.sound = true → w.framer.sound = true
  baseline : v.BaselineSound → w.BaselineSound

theorem Surface.Keeps.refl (v : Surface) : v.Keeps v := ⟨id, id, id⟩

theorem Surface.Keeps.trans {u v w : Surface} (first : u.Keeps v) (second : v.Keeps w) : u.Keeps w :=
  ⟨second.timed ∘ first.timed, second.framer ∘ first.framer, second.baseline ∘ first.baseline⟩

/-- What `State.ContactsSound` says, of a table and a counter alone (R84, R85, R95). -/
abbrev TableSound (slots : List Slot) (nextContact : Nat) : Prop :=
  slots.length = 16 ∧ (1 ≤ nextContact ∧ nextContact ≤ 255) ∧ (∀ k ∈ slots, k.Sound) ∧
    (∀ c ∈ liveContacts slots, 1 ≤ c ∧ c ≤ 255) ∧ (liveContacts slots).Nodup

theorem State.contactsSound_iff {s : State} : s.ContactsSound ↔ TableSound s.slots s.nextContact := Iff.rfl

/-- What `State.GestureSound` says, of an engine alone (R145, R160). -/
abbrev Gesture.Sound (g : Gesture) : Prop :=
  g.committed.isSome = (g.state == .committed) ∧ (g.pendingEnd.isSome = true → g.state ≠ .committed)

theorem State.gestureSound_iff {s : State} : s.GestureSound ↔ s.gesture.Sound := Iff.rfl

/-- The items that change with HARDWARE_RESET, START_UP and TIME_BASE_TICK alone, and the queue of commands (R184). -/
structure Clock where
  started : Bool
  straps : Straps
  cyclesPerTick : Nat
  time : BitVec 32
  pending : List Instr

def State.clock (s : State) : Clock := ⟨s.started, s.straps, s.cyclesPerTick, s.time, s.pending⟩

/-- The items that the invariants speak of, and the clock. -/
structure Watched where
  clock : Clock
  pad : Surface
  panel : Surface
  slots : List Slot
  nextContact : Nat
  gesture : Gesture
  queue : List Record
  almostFull : Nat
  buffer : List Request
  pendingCapture : Option PendingCapture

def State.watched (s : State) : Watched :=
  ⟨s.clock, s.pad, s.panel, s.slots, s.nextContact, s.gesture, s.queue, s.queueBlock.almostFull, s.buffer,
    s.pendingCapture⟩

/-! ## Moves -/

/-- One move of a command. -/
inductive Move : State → State → Prop
  /-- nothing that an invariant speaks of changes -/
  | unwatched {s t : State} (same : t.watched = s.watched) : Move s t
  | surface {s : State} (i : SurfaceId) {v : Surface} (keeps : (s.surface i).Keeps v) : Move s (s.withSurface i v)
  | contacts {s : State} {slots : List Slot} {next : Nat}
      (keeps : TableSound s.slots s.nextContact → TableSound slots next) :
      Move s { s with slots := slots, nextContact := next }
  | gesture {s : State} {g : Gesture} (keeps : s.gesture.Sound → g.Sound) : Move s (s.withGesture g)
  | offer {s : State} (q : Byte) (u : BitVec 16) {b : Body} (general : b.isGeneral = true) : Move s (s.offer q u b).2
  | fault {s : State} (k : FaultKind) (src : FaultSource) (q : Byte) (d : Nat) : Move s (s.raiseFault k src q d)
  /-- R175: a RESPONSE takes the place of the request at the head -/
  | answered {s : State} (waiting : s.buffer ≠ []) (tag code : Byte) (rc : ResponseCode) (d : List Byte) :
      Move s (s.popHead.respond tag code rc d)
  /-- R48, R52: a RESPONSE takes the place of the pending capture -/
  | served {s : State} (pending : s.pendingCapture.isSome = true) (tag code : Byte) (rc : ResponseCode)
      (d : List Byte) : Move s ((s.withPendingCapture none).respond tag code rc d)
  /-- R172, R183: a pending capture takes the place of its request -/
  | captureHeld {s : State} (waiting : s.buffer ≠ []) (c : PendingCapture) :
      Move s (s.popHead.withPendingCapture (some c))
  /-- R172 -/
  | accepted {s : State} (room : s.budget < 4) (r : Request) : Move s (s.withBuffer (s.buffer ++ [r]))
  /-- R169 -/
  | removed {s : State} : Move s (s.withQueue s.queue.tail)
  | queueBlock {s : State} {b : QueueBlock} (inRange : b.almostFull ≤ 59) :
      Move s (State.refreshAttn { s with queueBlock := b })
  | softReset {s : State} (waiting : s.buffer ≠ []) (r : Request) : Move s (s.runSoftReset r)
  | fullReset {s : State} (started : s.started = true) (r : Request) : Move s (s.runFullReset r)

/-- A chain of moves. -/
abbrev Moves : State → State → Prop := Relation.ReflTransGen Move

theorem Move.moves {s t : State} (move : Move s t) : Moves s t := .single move

theorem Moves.unwatched {s t : State} (same : t.watched = s.watched) : Moves s t := (Move.unwatched same).moves

/-! ## What a move keeps -/

section Reset

/-- Reset values keep what surfaces keep. -/
theorem Surface.softReset_keeps (v : Surface) : v.Keeps v.softReset where
  timed _ := ⟨rfl, fun _ => ⟨rfl, rfl, rfl, rfl⟩⟩
  framer _ := rfl
  baseline _ := ⟨fun _ => rfl, by simp [Surface.softReset, Surface.ended], rfl⟩

theorem Surface.atReset_timed : Surface.atReset.Timed := ⟨rfl, fun _ => ⟨rfl, rfl, rfl, rfl⟩⟩

theorem Surface.atReset_baselineSound : Surface.atReset.BaselineSound := ⟨fun _ => rfl, by simp [Surface.atReset], rfl⟩

theorem Surface.atReset_keeps (v : Surface) : v.Keeps .atReset :=
  ⟨fun _ => Surface.atReset_timed, fun _ => rfl, fun _ => Surface.atReset_baselineSound⟩

theorem tableSound_atReset : TableSound (List.replicate 16 .cleared) 1 := by decide

theorem Gesture.atReset_sound : Gesture.atReset.Sound := by decide

end Reset

section Frames

variable {s t : State}

/-- An offer, a fault and a RESPONSE leave the watched items but the queue. -/
theorem State.offer_watched (s : State) (q : Byte) (u : BitVec 16) (b : Body) :
    (s.offer q u b).2.watched = { s.watched with queue := (s.offer q u b).2.queue } := by
  obtain ⟨q', a, m, d, x, f, h⟩ := s.offer_frame q u b
  rw [h]
  rfl

theorem State.raiseFault_watched (s : State) (k : FaultKind) (src : FaultSource) (q : Byte) (d : Nat) :
    (s.raiseFault k src q d).watched = { s.watched with queue := (s.raiseFault k src q d).queue } := by
  obtain ⟨f, q', a, h⟩ := s.raiseFault_frame k src q d
  rw [h]
  rfl

/-- No move touches the clock (R184). -/
theorem Move.clock_eq (move : Move s t) : t.clock = s.clock := by
  cases move with
  | unwatched same => exact congrArg Watched.clock same
  | surface i keeps => cases i <;> rfl
  | offer q u general => exact congrArg Watched.clock (s.offer_watched q u _)
  | fault k src q d => exact congrArg Watched.clock (s.raiseFault_watched k src q d)
  | softReset waiting r =>
    unfold State.runSoftReset
    split <;> rfl
  | fullReset started r =>
    have : s.clock = { s.clock with started := true } := by rw [← started]; rfl
    rw [this]
    rfl
  | _ => rfl

theorem State.surface_eq_of_watched (pad : t.pad = s.pad) (panel : t.panel = s.panel) (i : SurfaceId) :
    t.surface i = s.surface i := by
  cases i
  · exact pad
  · exact panel

theorem Move.surface_keeps (move : Move s t) (i : SurfaceId) : (s.surface i).Keeps (t.surface i) := by
  have kept {t : State} (pad : t.pad = s.pad) (panel : t.panel = s.panel) : (s.surface i).Keeps (t.surface i) :=
    State.surface_eq_of_watched pad panel i ▸ .refl (s.surface i)
  cases move with
  | unwatched same => exact kept (congrArg Watched.pad same) (congrArg Watched.panel same)
  | @surface j v keeps =>
    by_cases same : i = j
    · subst same
      simpa using keeps
    · rw [State.withSurface_surface_ne s same]
      exact .refl _
  | @offer q u b general =>
    have same := s.offer_watched q u b
    exact kept (congrArg Watched.pad same) (congrArg Watched.panel same)
  | fault k src q d =>
    have same := s.raiseFault_watched k src q d
    exact kept (congrArg Watched.pad same) (congrArg Watched.panel same)
  | softReset waiting r =>
    unfold State.runSoftReset
    cases i <;> split <;> exact Surface.softReset_keeps _
  | fullReset started r => cases i <;> exact Surface.atReset_keeps _
  | _ => exact kept rfl rfl

theorem Move.contactsSound (move : Move s t) (sound : s.ContactsSound) : t.ContactsSound := by
  have kept {t : State} (slots : t.slots = s.slots) (next : t.nextContact = s.nextContact) : t.ContactsSound := by
    rw [State.contactsSound_iff, slots, next]
    exact sound
  cases move with
  | unwatched same => exact kept (congrArg Watched.slots same) (congrArg Watched.nextContact same)
  | surface i keeps => exact kept (State.withSurface_slots ..) (State.withSurface_nextContact ..)
  | contacts keeps => exact keeps sound
  | @offer q u b general =>
    have same := s.offer_watched q u b
    exact kept (congrArg Watched.slots same) (congrArg Watched.nextContact same)
  | fault k src q d =>
    have same := s.raiseFault_watched k src q d
    exact kept (congrArg Watched.slots same) (congrArg Watched.nextContact same)
  | softReset waiting r =>
    unfold State.runSoftReset
    split <;> exact tableSound_atReset
  | fullReset started r => exact tableSound_atReset
  | _ => exact kept rfl rfl

theorem Move.gestureSound (move : Move s t) (sound : s.GestureSound) : t.GestureSound := by
  have kept {t : State} (gesture : t.gesture = s.gesture) : t.GestureSound := by
    rw [State.gestureSound_iff, gesture]
    exact sound
  cases move with
  | unwatched same => exact kept (congrArg Watched.gesture same)
  | surface i keeps => exact kept (State.withSurface_gesture ..)
  | gesture keeps => exact keeps sound
  | offer q u general => exact kept (congrArg Watched.gesture (s.offer_watched q u _))
  | fault k src q d => exact kept (congrArg Watched.gesture (s.raiseFault_watched k src q d))
  | softReset waiting r =>
    unfold State.runSoftReset
    split <;> exact Gesture.atReset_sound
  | fullReset started r => exact Gesture.atReset_sound
  | _ => exact kept rfl

theorem Move.queueBounded (move : Move s t) (bounded : s.QueueBounded) : t.QueueBounded := by
  cases move with
  | unwatched same =>
    exact bounded.of_same (congrArg Watched.queue same) (congrArg Watched.almostFull same)
      (congrArg Watched.buffer same) (congrArg Watched.pendingCapture same)
  | surface i keeps => exact bounded.of_same (by simp) (by simp) (by simp) (by simp)
  | offer q u general => exact bounded.offer q u general
  | fault k src q d => exact bounded.raiseFault k src q d
  | answered waiting tag code rc d => exact bounded.answered waiting tag code rc d
  | served pending tag code rc d => exact bounded.served pending tag code rc d
  | captureHeld waiting c => exact bounded.captureHeld waiting c
  | accepted room r => exact bounded.accepted room r
  | removed => exact bounded.removed
  | queueBlock inRange =>
    obtain ⟨-, counts⟩ := bounded
    exact ⟨inRange, counts⟩
  | softReset waiting r => exact bounded.softReset waiting r
  | fullReset started r => exact s.runFullReset_queueBounded r
  | _ => exact bounded.of_same rfl rfl rfl rfl

/-! ## What a chain of moves keeps -/

/-- What every move keeps, a chain of moves keeps. -/
theorem Moves.keep {P : State → Prop} (step : ∀ {s t : State}, Move s t → P s → P t) (moves : Moves s t) (start : P s) :
    P t := by
  induction moves with
  | refl => exact start
  | tail _ move ih => exact step move ih

theorem Moves.clock_eq (moves : Moves s t) : t.clock = s.clock :=
  moves.keep (P := fun u => u.clock = s.clock) (fun move same => move.clock_eq.trans same) rfl

theorem Moves.surface_keeps (moves : Moves s t) (i : SurfaceId) : (s.surface i).Keeps (t.surface i) :=
  moves.keep (P := fun u => (s.surface i).Keeps (u.surface i))
    (fun move keeps => keeps.trans (move.surface_keeps i)) (.refl _)

end Frames

end Sys2Proof.Machine
end

section
/-! PROOFS. The contact table's invariant under the operations of the tracker, the rejection stage and the gesture
engine (R84, R85, R95). -/

namespace Sys2Proof.Machine

/-! ## One slot -/

/-- A slot passes to one that keeps its invariant and, when it is live, its contact ID. -/
structure Slot.Keeps (k k' : Slot) : Prop where
  sound : k.Sound → k'.Sound
  live : k'.state ≠ .free → k.state ≠ .free ∧ k'.contact = k.contact

namespace Slot

variable {k : Slot}

theorem Keeps.refl (k : Slot) : k.Keeps k := ⟨id, fun live => ⟨live, rfl⟩⟩

theorem Keeps.trans {a b c : Slot} (first : a.Keeps b) (second : b.Keeps c) : a.Keeps c where
  sound := second.sound ∘ first.sound
  live live := by
    obtain ⟨live, contact⟩ := second.live live
    obtain ⟨live', contact'⟩ := first.live live
    exact ⟨live', contact.trans contact'⟩

theorem cleared_sound : Slot.cleared.Sound := by decide

theorem Sound.reason_state (sound : k.Sound) : k.reason.isSome = (k.state == .suppressed) := sound.2.1

theorem Sound.ending_closing (sound : k.Sound) : k.state = .ending → k.closing.isSome = true := sound.2.2.1

theorem Sound.closing_marks (sound : k.Sound) : k.closing.isSome = true → k.announced = true ∧ k.closed = false :=
  sound.2.2.2

/-- A slot may become FREE at any time (R84). -/
theorem keeps_cleared (k : Slot) : k.Keeps .cleared := ⟨fun _ => cleared_sound, fun live => absurd rfl live⟩

/-- A slot that stays neither FREE nor ENDING keeps what it is when its closing and its marks stand. -/
theorem keeps_of_fields {k' : Slot} (live : k.state ≠ .free) (notFree : k'.state ≠ .free) (notEnding : k'.state ≠ .ending)
    (contact : k'.contact = k.contact) (reason : k.Sound → k'.reason.isSome = (k'.state == .suppressed))
    (closing : k'.closing = k.closing) (announced : k'.announced = k.announced) (closed : k'.closed = k.closed) :
    k.Keeps k' where
  sound sound := by
    refine ⟨fun free => absurd free notFree, reason sound, fun ending => absurd ending notEnding, ?_⟩
    rw [closing, announced, closed]
    exact sound.closing_marks
  live _ := ⟨live, contact⟩

theorem reason_none_of_not_suppressed (sound : k.Sound) (state : k.state ≠ .suppressed) : k.reason = none := by
  have := sound.reason_state
  rw [beq_eq_false_iff_ne.mpr state] at this
  simpa using this

theorem setClosing_closing_isSome (kind : ClosingKind) (k : Slot) : (k.setClosing kind).closing.isSome = true := rfl

/-- An ENDING slot with a closing, announced and not closed. -/
theorem keeps_toEnding {k' : Slot} (live : k.state ≠ .free) (contact : k'.contact = k.contact)
    (closing : k'.closing.isSome = true) (marks : k.Sound → k'.announced = true ∧ k'.closed = false) :
    k.Keeps k'.toEnding where
  sound sound := ⟨nofun, rfl, fun _ => closing, fun _ => marks sound⟩
  live _ := ⟨live, contact⟩

/-- A slot holding a closing becomes ENDING. -/
theorem keeps_toEnding_of_closing (live : k.state ≠ .free) (closing : k.closing.isSome = true) :
    k.Keeps k.toEnding :=
  keeps_toEnding live rfl closing (fun sound => sound.closing_marks closing)

/-- An announced slot that is not closed takes a closing and becomes ENDING (R85). -/
theorem keeps_setClosing_toEnding (live : k.state ≠ .free) (kind : ClosingKind)
    (open_ : (k.announced && !k.closed) = true) : k.Keeps (k.setClosing kind).toEnding :=
  keeps_toEnding live rfl rfl (fun _ => by simpa [setClosing] using open_)

/-! ## Tracking (R87 to R92) -/

theorem candidate_live {i : SurfaceId} (candidate : k.candidate i = true) : k.state ≠ .free ∧ k.state ≠ .ending := by
  cases h : k.state <;> simp_all [Slot.candidate, SlotState.tracked]

theorem keeps_stopAfterGap (i : SurfaceId) (n : Nat) (k : Slot) : k.Keeps (k.stopAfterGap i n) := by
  unfold stopAfterGap
  split
  next stops =>
    obtain ⟨live, notEnding⟩ := candidate_live (Bool.and_eq_true_iff.mp stops).1
    exact keeps_of_fields live live notEnding rfl (fun sound => sound.reason_state) rfl rfl rfl
  next => exact .refl k

theorem keeps_matched (live : k.state ≠ .free) (notEnding : k.state ≠ .ending) (n : Nat) (r : Region) :
    k.Keeps (k.matched n r) := by
  by_cases held : k.state = .held
  · refine keeps_of_fields live ?_ ?_ rfl (fun sound => ?_) rfl rfl rfl
    · simp [matched, held]
    · simp [matched, held]
    · have := reason_none_of_not_suppressed sound (by simp [held])
      simp [matched, held, this]
  · refine keeps_of_fields live ?_ ?_ rfl (fun sound => ?_) rfl rfl rfl
    · simpa [matched, held] using live
    · simpa [matched, held] using notEnding
    · simpa [matched, held] using sound.reason_state

theorem keeps_endCoast (live : k.state ≠ .free) : k.Keeps k.endCoast := by
  unfold endCoast
  split
  next closing => exact keeps_toEnding_of_closing live closing
  next =>
    split
    next opens => exact keeps_setClosing_toEnding live _ opens
    next => exact keeps_cleared k

theorem keeps_unmatched (coast : Nat) (k : Slot) : k.Keeps (k.unmatched coast) := by
  unfold unmatched
  split
  next => exact keeps_cleared k
  next state =>
    have held : k.Keeps { k with state := .held, missing := 1 } :=
      keeps_of_fields (by simp [state]) nofun nofun rfl
        (fun sound => by simp [reason_none_of_not_suppressed sound (by simp [state])]) rfl rfl rfl
    dsimp only
    split
    · exact held.trans (keeps_endCoast nofun)
    · exact held
  next state =>
    have held : k.Keeps { k with missing := k.missing + 1 } :=
      keeps_of_fields (by simp [state]) (by simp [state]) (by simp [state]) rfl (fun sound => sound.reason_state) rfl rfl rfl
    dsimp only
    split
    · exact held.trans (keeps_endCoast (by simp [state]))
    · exact held
  next state =>
    split
    next closing => exact keeps_toEnding_of_closing (by simp [state]) closing
    next => exact keeps_cleared k
  next => exact .refl k
  next => exact .refl k

theorem keeps_update (i : SurfaceId) (n coast : Nat) (pairs : List Pair) (regions : List Region) (index : Nat)
    (k : Slot) : k.Keeps (k.update i n coast pairs regions index) := by
  unfold update
  split
  next candidate =>
    obtain ⟨live, notEnding⟩ := candidate_live candidate
    split
    · exact keeps_matched live notEnding n _
    · exact keeps_unmatched coast k
  next => exact .refl k

/-! ## Suppression and closing on request (R97, R98) -/

theorem keeps_suppress (live : k.state ≠ .free) (reason : Reason) : k.Keeps (k.suppress reason) := by
  unfold suppress
  split
  next opens =>
    exact ⟨fun _ => ⟨nofun, rfl, nofun, fun _ => by simpa [setClosing] using opens⟩, fun _ => ⟨live, rfl⟩⟩
  next => exact keeps_of_fields live nofun nofun rfl (fun _ => rfl) rfl rfl rfl

theorem keeps_closeOnRequest (live : k.state ≠ .free) : k.Keeps k.closeOnRequest := by
  unfold closeOnRequest
  split
  next => exact .refl k
  next notClosed =>
    have notClosed : k.closed = false := by simpa using notClosed
    split
    next announced =>
      refine ⟨fun sound => ⟨fun free => absurd free live, sound.reason_state, fun _ => rfl, fun _ => ?_⟩, fun _ => ⟨live, rfl⟩⟩
      exact ⟨announced, notClosed⟩
    next notAnnounced =>
      refine ⟨fun sound => ⟨fun free => absurd free live, sound.reason_state, sound.ending_closing, fun closing => ?_⟩,
        fun _ => ⟨live, rfl⟩⟩
      exact absurd (sound.closing_marks closing).1 notAnnounced

/-! ## Placement, surface ends and rejection (R104, R106, R108) -/

theorem keeps_placed (live : k.state ≠ .free) (entries : List FrameEntry) : k.Keeps (k.placed entries) := by
  have closed : k.state ≠ .ending → k.Keeps { k with closing := none, announced := false, closed := true } :=
    fun notEnding => ⟨fun sound => ⟨fun free => absurd free live, sound.reason_state, fun ending => absurd ending notEnding,
      nofun⟩, fun _ => ⟨live, rfl⟩⟩
  have ends : k.Keeps (if k.state == .ending then .cleared
      else { k with closing := none, announced := false, closed := true }) := by
    split
    · exact keeps_cleared k
    next notEnding => exact closed (by simpa using notEnding)
  unfold placed
  split
  next => exact .refl k
  next e _ =>
    split
    next =>
      exact ⟨fun sound => ⟨fun free => absurd free live, sound.reason_state, sound.ending_closing, fun closing =>
        ⟨rfl, (sound.closing_marks closing).2⟩⟩, fun _ => ⟨live, rfl⟩⟩
    next => exact .refl k
    next => exact ends
    next => exact ends

theorem keeps_endEffect (k : Slot) : k.Keeps k.endEffect := by
  have closes : k.state ≠ .free → k.Keeps
      (if k.announced && !k.closed then (k.setClosing .cancel).toEnding else .cleared) := by
    intro live
    split
    next opens => exact keeps_setClosing_toEnding live _ opens
    next => exact keeps_cleared k
  unfold endEffect
  split
  next state => exact closes (by simp [state])
  next state => exact closes (by simp [state])
  next => exact keeps_cleared k
  next state =>
    split
    next closing => exact keeps_toEnding_of_closing (by simp [state]) closing
    next => exact keeps_cleared k
  next => exact .refl k
  next => exact .refl k

theorem keeps_promote (q : RejectionInputs) (k : Slot) : k.Keeps (q.promote k) := by
  unfold RejectionInputs.promote
  split
  next meets =>
    have state : k.state = .tentative := by
      simp only [Bool.and_eq_true, beq_iff_eq] at meets
      exact meets.1.2
    split
    · exact keeps_of_fields (by simp [state]) nofun nofun rfl
        (fun sound => by simp [reason_none_of_not_suppressed sound (by simp [state])]) rfl rfl rfl
    · exact keeps_of_fields (by simp [state]) nofun nofun rfl (fun _ => rfl) rfl rfl rfl
    · exact .refl k
  next => exact .refl k

theorem keeps_check (q : RejectionInputs) (k : Slot) : k.Keeps (q.check k) := by
  unfold RejectionInputs.check
  split
  next meets =>
    split
    · refine keeps_suppress (fun free => ?_) _
      simp [free] at meets
    · exact .refl k
  next => exact .refl k

end Slot

/-! ## The table -/

theorem liveContacts_cons (k : Slot) (slots : List Slot) :
    liveContacts (k :: slots) = if k.state = .free then liveContacts slots else k.contact :: liveContacts slots := by
  by_cases free : k.state = .free <;> simp [liveContacts, free]

/-- Slot by slot, the live contact IDs can only become fewer. -/
theorem liveContacts_sublist {slots slots' : List Slot} (keeps : List.Forall₂ Slot.Keeps slots slots') :
    (liveContacts slots').Sublist (liveContacts slots) := by
  induction keeps with
  | nil => exact .slnil
  | @cons k k' slots slots' head _ ih =>
    rw [liveContacts_cons, liveContacts_cons]
    by_cases free' : k'.state = .free
    · by_cases free : k.state = .free
      · simpa [free', free] using ih
      · simpa [free', free] using ih.cons k.contact
    · obtain ⟨live, contact⟩ := head.live free'
      simpa [free', live, contact] using ih

theorem sound_of_keeps {slots slots' : List Slot} (keeps : List.Forall₂ Slot.Keeps slots slots')
    (sound : ∀ k ∈ slots, k.Sound) : ∀ k ∈ slots', k.Sound := by
  induction keeps with
  | nil => exact sound
  | cons head _ ih =>
    obtain ⟨headSound, restSound⟩ := List.forall_mem_cons.mp sound
    exact List.forall_mem_cons.mpr ⟨head.sound headSound, ih restSound⟩

/-- The table's invariant is kept slot by slot. -/
theorem TableSound.of_keeps {slots slots' : List Slot} {next : Nat} (table : TableSound slots next)
    (keeps : List.Forall₂ Slot.Keeps slots slots') : TableSound slots' next := by
  obtain ⟨length, range, sound, contacts, distinct⟩ := table
  have fewer := liveContacts_sublist keeps
  exact ⟨keeps.length_eq ▸ length, range, sound_of_keeps keeps sound, fun c live => contacts c (fewer.subset live),
    distinct.sublist fewer⟩

theorem forall₂_keeps_map {f : Slot → Slot} (slots : List Slot) (keeps : ∀ k ∈ slots, Slot.Keeps k (f k)) :
    List.Forall₂ Slot.Keeps slots (slots.map f) := by
  induction slots with
  | nil => exact .nil
  | cons k slots ih =>
    obtain ⟨head, rest⟩ := List.forall_mem_cons.mp keeps
    exact .cons head (ih rest)

theorem forall₂_keeps_zipIdx_map {f : Slot → Nat → Slot} (keeps : ∀ k index, Slot.Keeps k (f k index)) (slots : List Slot)
    (n : Nat) : List.Forall₂ Slot.Keeps slots ((slots.zipIdx n).map (fun (k, index) => f k index)) := by
  induction slots generalizing n with
  | nil => exact .nil
  | cons k slots ih => exact .cons (keeps k n) (ih (n + 1))

theorem TableSound.map {slots : List Slot} {next : Nat} (table : TableSound slots next) {f : Slot → Slot}
    (keeps : ∀ k, Slot.Keeps k (f k)) : TableSound (slots.map f) next :=
  table.of_keeps (forall₂_keeps_map slots (fun k _ => keeps k))

theorem Slot.ofSurface_live {i : SurfaceId} {k : Slot} (ofSurface : k.ofSurface i = true) : k.state ≠ .free := by
  simp only [Slot.ofSurface, Bool.and_eq_true, bne_iff_ne] at ofSurface
  exact ofSurface.1

theorem TableSound.placed {slots : List Slot} {next : Nat} (table : TableSound slots next) (i : SurfaceId)
    (entries : List FrameEntry) :
    TableSound (slots.map (fun k => if k.ofSurface i then k.placed entries else k)) next :=
  table.map fun k => by
    split
    next ofSurface => exact Slot.keeps_placed (Slot.ofSurface_live ofSurface) entries
    next => exact .refl k

theorem TableSound.endEffect {slots : List Slot} {next : Nat} (table : TableSound slots next) (i : SurfaceId) :
    TableSound (slots.map (fun k => if k.ofSurface i then k.endEffect else k)) next :=
  table.map fun k => by
    split
    · exact Slot.keeps_endEffect k
    · exact .refl k

theorem TableSound.stage {slots : List Slot} {next : Nat} (table : TableSound slots next) (q : RejectionInputs) :
    TableSound (q.stage slots) next :=
  (table.map (Slot.keeps_promote q)).map (Slot.keeps_check q)

/-! ## Admission (R93 to R95) -/

theorem nextAfter_eq (c : Nat) : nextAfter c = if c = 255 then 1 else c + 1 := by simp [nextAfter]

theorem nextAfter_range {c : Nat} (range : 1 ≤ c ∧ c ≤ 255) : 1 ≤ nextAfter c ∧ nextAfter c ≤ 255 := by
  rw [nextAfter_eq]
  split <;> omega

theorem freeContact_range (slots : List Slot) (fuel : Nat) {c : Nat} (range : 1 ≤ c ∧ c ≤ 255) :
    1 ≤ freeContact slots fuel c ∧ freeContact slots fuel c ≤ 255 := by
  induction fuel generalizing c with
  | zero => exact range
  | succ fuel ih =>
    unfold freeContact
    split
    · exact ih (nextAfter_range range)
    · exact range

theorem heldContact_iff (slots : List Slot) (c : Nat) : heldContact slots c = true ↔ c ∈ liveContacts slots := by
  simp [heldContact, liveContacts, and_assoc]

/-- The counter `n` advances on from `c` (R95). -/
def advanced : Nat → Nat → Nat
  | 0, c => c
  | n + 1, c => advanced n (nextAfter c)

/-- From 1 to 255 the counter is a cycle of 255 values. -/
theorem advanced_eq {c : Nat} (range : 1 ≤ c ∧ c ≤ 255) (n : Nat) : advanced n c = (c - 1 + n) % 255 + 1 := by
  induction n generalizing c with
  | zero => simp only [advanced]; omega
  | succ n ih =>
    rw [advanced, ih (nextAfter_range range), nextAfter_eq]
    split <;> omega

/-- If the search ends on a held contact, every value it met is held. -/
theorem held_of_freeContact_held (slots : List Slot) (fuel : Nat) (c : Nat)
    (held : heldContact slots (freeContact slots fuel c) = true) :
    ∀ n ≤ fuel, heldContact slots (advanced n c) = true := by
  induction fuel generalizing c with
  | zero =>
    intro n le
    obtain rfl : n = 0 := by omega
    exact held
  | succ fuel ih =>
    unfold freeContact at held
    split at held
    next first =>
      intro n le
      cases n with
      | zero => exact first
      | succ n => exact ih (nextAfter c) held n (by omega)
    next first => exact absurd held first

/-- With 16 slots the search of 255 contact IDs ends on one that no slot holds (R95). -/
theorem freeContact_free {slots : List Slot} (length : slots.length = 16) {c : Nat} (range : 1 ≤ c ∧ c ≤ 255) :
    freeContact slots 255 c ∉ liveContacts slots := by
  intro mem
  have held := held_of_freeContact_held slots 255 c ((heldContact_iff slots _).mpr mem)
  have sub : (List.range 17).map (fun n => advanced n c) ⊆ liveContacts slots := by
    intro x inImage
    obtain ⟨n, small, rfl⟩ := List.mem_map.mp inImage
    have := List.mem_range.mp small
    exact (heldContact_iff slots _).mp (held n (by omega))
  have distinct : ((List.range 17).map (fun n => advanced n c)).Nodup := by
    refine List.Nodup.map_on (fun a ha b hb same => ?_) List.nodup_range
    have := List.mem_range.mp ha
    have := List.mem_range.mp hb
    rw [advanced_eq range, advanced_eq range] at same
    omega
  have few : (liveContacts slots).length ≤ 16 := by
    rw [liveContacts, List.length_map, ← length]
    exact List.length_filter_le ..
  have := (distinct.subperm sub).length_le
  simp at this
  omega

theorem Slot.admitted_sound (i : SurfaceId) (c : Nat) (r : Region) : (Slot.admitted i c r).Sound :=
  ⟨nofun, rfl, nofun, nofun⟩

/-- Filling a FREE slot adds its contact ID to the live ones. -/
theorem liveContacts_set {slots : List Slot} {index : Nat} {k : Slot} (at_index : slots[index]? = some k)
    (free : k.state = .free) {k' : Slot} (live : k'.state ≠ .free) :
    (liveContacts (slots.set index k')).Perm (k'.contact :: liveContacts slots) := by
  induction slots generalizing index with
  | nil => simp at at_index
  | cons a slots ih =>
    cases index with
    | zero =>
      obtain rfl : a = k := by simpa using at_index
      rw [List.set_cons_zero, liveContacts_cons, liveContacts_cons, if_neg live, if_pos free]
    | succ index =>
      have tail := ih (by simpa using at_index)
      rw [List.set_cons_succ, liveContacts_cons, liveContacts_cons]
      by_cases aFree : a.state = .free
      · simpa [aFree] using tail
      · simpa [aFree] using (tail.cons a.contact).trans (.swap ..)

/-- A region is admitted into a FREE slot with a contact ID that no slot holds, or refused (R93 to R95). -/
theorem TableSound.region {a : Admission} (table : TableSound a.slots a.nextContact) (i : SurfaceId) (limit : Nat)
    (r : Region) : TableSound (a.region i limit r).slots (a.region i limit r).nextContact := by
  unfold Admission.region
  split
  next =>
    split
    next index found =>
      obtain ⟨length, range, sound, contacts, distinct⟩ := table
      obtain ⟨inside, free, -⟩ := List.findIdx?_eq_some_iff_getElem.mp found
      have added := liveContacts_set (List.getElem?_eq_getElem inside) (by simpa using free)
        (k' := .admitted i (freeContact a.slots 255 a.nextContact) r) nofun
      have newRange := freeContact_range a.slots 255 range
      refine ⟨by simpa using length, nextAfter_range newRange, fun k mem => ?_, fun c live => ?_, ?_⟩
      · obtain old | rfl := List.mem_or_eq_of_mem_set mem
        · exact sound k old
        · exact Slot.admitted_sound ..
      · obtain rfl | old := List.mem_cons.mp (added.mem_iff.mp live)
        · exact newRange
        · exact contacts c old
      · exact added.nodup_iff.mpr (List.nodup_cons.mpr ⟨freeContact_free length range, distinct⟩)
    next => exact table
  next => exact table

theorem TableSound.foldl_region {a : Admission} (table : TableSound a.slots a.nextContact) (i : SurfaceId)
    (limit : Nat) (regions : List Region) :
    TableSound (regions.foldl (Admission.region i limit) a).slots
      (regions.foldl (Admission.region i limit) a).nextContact := by
  induction regions generalizing a with
  | nil => exact table
  | cons r regions ih => exact ih (table.region i limit r)

/-- Pairing, updates and admission (R86). -/
theorem TableSound.trackRegions {slots : List Slot} {next : Nat} (table : TableSound slots next) (i : SurfaceId)
    (g : Geometry) (d : Detection) (n : Nat) (regions : List Region) :
    TableSound (trackRegions i g d n regions slots next).slots (trackRegions i g d n regions slots next).nextContact :=
  TableSound.foldl_region (a := { slots := _, nextContact := next, refused := 0 })
    ((table.map (Slot.keeps_stopAfterGap i n)).of_keeps (forall₂_keeps_zipIdx_map (fun k index => Slot.keeps_update i n _ _ _ index k) _ 0))
    i _ _

end Sys2Proof.Machine
end

section
/-! PROOFS. The gesture engine's invariant under its stage and its cancellations (R145, R148 to R160), and which slots a
stage changes. -/

namespace Sys2Proof.Machine

/-! ## The engine outside a stage -/

theorem Gesture.block_sound (g : Gesture) : g.block.Sound := ⟨rfl, nofun⟩

theorem Gesture.block_unblock_sound (g : Gesture) : g.block.unblock.Sound := ⟨rfl, nofun⟩

theorem Gesture.Sound.committed_eq_none {g : Gesture} (sound : g.Sound) (state : g.state ≠ .committed) :
    g.committed = none := by
  have := sound.1
  rw [beq_eq_false_iff_ne.mpr state] at this
  simpa using this

/-- An engine that stays out of COMMITTED. -/
theorem Gesture.sound_of_not_committed {g : Gesture} (state : g.state ≠ .committed) (committed : g.committed = none) :
    g.Sound :=
  ⟨by simp [committed, state], fun _ => state⟩

theorem Gesture.Sound.withPendingEnd {g : Gesture} (sound : g.Sound) {p : Option PendingEnd}
    (state : p.isSome = true → g.state ≠ .committed) : { g with pendingEnd := p }.Sound := ⟨sound.1, state⟩

/-! ## What a stage leaves -/

/-- The event is an END. -/
def GestureEvent.isEnd : GestureEvent → Bool
  | .ended _ _ => true
  | _ => false

section Stage

variable {q : StageInputs} {p : Group} {r : StageResult} {g : Gesture}

@[simp] theorem Gesture.anchored_state : (g.anchored q p).state = g.state := by unfold Gesture.anchored; split <;> rfl
@[simp] theorem Gesture.anchored_committed : (g.anchored q p).committed = g.committed := by
  unfold Gesture.anchored; split <;> rfl
@[simp] theorem Gesture.anchored_pendingEnd : (g.anchored q p).pendingEnd = g.pendingEnd := by
  unfold Gesture.anchored; split <;> rfl
@[simp] theorem Gesture.settle_state : (g.settle q p).state = g.state := by
  unfold Gesture.settle; split <;> simp
@[simp] theorem Gesture.settle_committed : (g.settle q p).committed = g.committed := by
  unfold Gesture.settle; split <;> simp
@[simp] theorem Gesture.settle_pendingEnd : (g.settle q p).pendingEnd = g.pendingEnd := by
  unfold Gesture.settle; split <;> simp
@[simp] theorem Gesture.raised_state : (g.raised p).state = g.state := rfl
@[simp] theorem Gesture.raised_committed : (g.raised p).committed = g.committed := rfl
@[simp] theorem Gesture.raised_pendingEnd : (g.raised p).pendingEnd = g.pendingEnd := rfl

/-- A commit comes with no END pending (R151, R153). -/
theorem commitTest_sound (sound : r.engine.Sound) (noPending : r.engine.pendingEnd = none) :
    (commitTest q p r).engine.Sound := by
  unfold commitTest
  split
  next e _ => exact ⟨rfl, fun pending => by simp [commitWith, noPending] at pending⟩
  next => exact sound

theorem tapDecision_sound (sound : r.engine.Sound) (state : r.engine.state ≠ .committed) :
    (tapDecision q r).engine.Sound :=
  Gesture.sound_of_not_committed nofun (sound.committed_eq_none state)

theorem gatheringStage_sound (sound : r.engine.Sound) (state : r.engine.state = .gathering) :
    (gatheringStage q p r).engine.Sound := by
  unfold gatheringStage
  split
  · exact tapDecision_sound sound (by simp [state])
  · split
    next commits =>
      simp only [Bool.and_eq_true, decide_eq_true_eq, Option.isNone_iff_eq_none] at commits
      exact commitTest_sound sound commits.2
    next => exact sound

theorem committedStage_sound (sound : r.engine.Sound) (state : r.engine.state = .committed) :
    (committedStage q p r).engine.Sound := by
  have noPending : r.engine.pendingEnd.isSome = false := by
    have := sound.2
    simpa [state] using this
  simp only [committedStage]
  split
  · exact Gesture.sound_of_not_committed nofun rfl
  · split
    · split
      · exact ⟨by simp [state], fun pending => by simp [noPending] at pending⟩
      · exact sound
    · exact Gesture.sound_of_not_committed nofun rfl

theorem advance_sound (sound : r.engine.Sound) : (advance q p r).engine.Sound := by
  simp only [advance]
  split
  next state =>
    split
    · exact sound
    · refine gatheringStage_sound (Gesture.sound_of_not_committed nofun ?_) rfl
      simpa [Gesture.beginEpisode] using sound.committed_eq_none (by simp [state])
  next state =>
    refine gatheringStage_sound (Gesture.sound_of_not_committed ?_ ?_) (by simp [state])
    · simp [state]
    · simpa using sound.committed_eq_none (by simp [state])
  next state => exact committedStage_sound sound state
  next => exact sound

theorem decidePress_sound (sound : r.engine.Sound) : (decidePress q p r).engine.Sound := by
  unfold decidePress
  split
  · exact sound
  · split
    · exact sound
    · exact sound

theorem gestureSteps_sound (sound : g.Sound) (slots : List Slot) : (gestureSteps q p g slots).engine.Sound := by
  unfold gestureSteps
  split
  · exact g.block_sound
  · split
    next state =>
      have state : g.state = .blocked := by simpa using state
      have unblocked : g.unblock.Sound :=
        Gesture.sound_of_not_committed nofun (sound.committed_eq_none (by simp [state]))
      split
      · exact decidePress_sound (advance_sound unblocked)
      · exact sound
    next => exact decidePress_sound (advance_sound sound)

theorem gestureStage_sound (sound : g.Sound) (slots : List Slot) : (gestureStage q g slots).engine.Sound := by
  unfold gestureStage
  split
  · exact gestureSteps_sound (q := q) (p := groupOf slots) sound slots
  · exact sound

/-! ## A stage that emits an END is out of COMMITTED (R154, R157) -/

/-- The result so far: an END emitted, the engine is out of COMMITTED. -/
def StageResult.EndsOut (r : StageResult) : Prop :=
  r.events.any GestureEvent.isEnd = true → r.engine.state ≠ .committed

theorem gatheringStage_noEnd (noEnd : r.events.any GestureEvent.isEnd = false) :
    (gatheringStage q p r).events.any GestureEvent.isEnd = false := by
  unfold gatheringStage
  split
  · simp only [tapDecision, List.any_append, noEnd, Bool.false_or]
    split
    · split <;> rfl
    · rfl
  · split
    · unfold commitTest
      split
      · simp only [commitWith, List.any_append, noEnd]; rfl
      · exact noEnd
    · exact noEnd

theorem advance_endsOut (noEnd : r.events.any GestureEvent.isEnd = false) : (advance q p r).EndsOut := by
  have none {r : StageResult} (noEnd : r.events.any GestureEvent.isEnd = false) : r.EndsOut :=
    fun ended => by simp [noEnd] at ended
  simp only [advance]
  split
  · split
    · exact none noEnd
    · exact none (gatheringStage_noEnd noEnd)
  · exact none (gatheringStage_noEnd noEnd)
  · simp only [committedStage]
    split
    · exact fun _ => nofun
    · split
      · split
        · refine none ?_
          simp only [List.any_append, noEnd]; rfl
        · exact none noEnd
      · exact fun _ => nofun
  · exact none noEnd

theorem decidePress_endsOut (ends : r.EndsOut) : (decidePress q p r).EndsOut := by
  unfold decidePress
  split
  · exact fun ended => ends (by simpa [GestureEvent.isEnd] using ended)
  · split
    · exact fun ended => ends (by simpa [GestureEvent.isEnd] using ended)
    · exact ends

theorem gestureStage_endsOut (slots : List Slot) : (gestureStage q g slots).EndsOut := by
  unfold gestureStage
  split
  · change (gestureSteps q (groupOf slots) g slots).EndsOut
    unfold gestureSteps
    split
    · exact fun _ => nofun
    · split
      · split
        · exact decidePress_endsOut (advance_endsOut rfl)
        · exact nofun
      · exact decidePress_endsOut (advance_endsOut rfl)
  · exact nofun

/-! ## The slots a stage changes (R98, R153) -/

/-- A stage leaves the slots, or closes the participants of a commit. -/
def StageResult.SlotsFrom (slots : List Slot) (r : StageResult) : Prop :=
  r.slots = slots ∨ r.slots = slots.map (fun k => if k.participates then k.closeOnRequest else k)

theorem gatheringStage_slots : (gatheringStage q p r).SlotsFrom r.slots := by
  unfold gatheringStage
  split
  · exact .inl rfl
  · split
    · unfold commitTest
      split
      next e _ => cases h : e.capture <;> simp [StageResult.SlotsFrom, commitWith, h]
      next => exact .inl rfl
    · exact .inl rfl

theorem advance_slots : (advance q p r).SlotsFrom r.slots := by
  simp only [advance]
  split
  · split
    · exact .inl rfl
    · exact gatheringStage_slots
  · exact gatheringStage_slots
  · refine .inl ?_
    simp only [committedStage]
    split
    · rfl
    · split
      · split <;> rfl
      · rfl
  · exact .inl rfl

@[simp] theorem decidePress_slots : (decidePress q p r).slots = r.slots := by
  unfold decidePress
  split
  · rfl
  · split <;> rfl

theorem gestureStage_slots (slots : List Slot) : (gestureStage q g slots).SlotsFrom slots := by
  unfold gestureStage
  split
  · change (gestureSteps q (groupOf slots) g slots).SlotsFrom slots
    unfold gestureSteps
    split
    · exact .inl rfl
    · split
      · split
        · simpa [StageResult.SlotsFrom] using advance_slots (r := ⟨g.unblock, slots, []⟩)
        · exact .inl rfl
      · simpa [StageResult.SlotsFrom] using advance_slots (r := ⟨g, slots, []⟩)
  · exact .inl rfl

theorem Slot.participates_live {k : Slot} (participates : k.participates = true) : k.state ≠ .free := by
  intro free
  simp [Slot.participates, free] at participates

theorem TableSound.gestureStage {slots : List Slot} {next : Nat} (table : TableSound slots next) :
    TableSound (gestureStage q g slots).slots next := by
  obtain same | closed := gestureStage_slots (q := q) (g := g) slots
  · rwa [same]
  · rw [closed]
    refine table.map fun k => ?_
    split
    next participates => exact Slot.keeps_closeOnRequest (Slot.participates_live participates)
    next => exact .refl k

end Stage

end Sys2Proof.Machine
end

section
/-! PROOFS. What the surfaces' operations keep (R5 to R13, R17, R36, R41), and the shared operations as chains of
moves. -/

namespace Sys2Proof.Machine

/-! ## A surface's context -/

namespace Surface

variable {v : Surface}

theorem keeps_framer {f : Framer} (sound : f.sound = true) : v.Keeps { v with framer := f } :=
  ⟨id, fun _ => sound, id⟩

/-- A surface end leaves no frame, no timer and no baseline (R8, R12, R13, R53). -/
theorem keeps_ended {status : SurfaceState} (stops : status.processing = false) : v.Keeps (v.ended status) where
  timed _ := ⟨by simp [ended, stops], fun _ => ⟨rfl, rfl, rfl, rfl⟩⟩
  framer := id
  baseline _ := ⟨fun _ => rfl, fun runs => by simp [ended] at runs; simp [runs, SurfaceState.processing] at stops, rfl⟩

/-- A rebase of a surface in ACQUIRING or RUNNING with no frame in flight past its baseline stage (R10, R11). -/
theorem keeps_acquiring (processing : v.status.processing = true)
    (noFlight : v.imageFlight.all (fun f => f.progress == .taken) = true) : v.Keeps v.acquiring where
  timed timed := ⟨timed.1.trans processing, nofun⟩
  framer := id
  baseline sound := ⟨sound.1, nofun, by
    cases h : v.imageFlight <;> simp_all [acquiring]⟩

/-- In a surface that is not RUNNING, a frame in flight has not passed its baseline stage (R5, R37). -/
theorem BaselineSound.flight_taken (sound : v.BaselineSound) (state : v.status ≠ .running) :
    v.imageFlight.all (fun f => f.progress == .taken) = true := by
  have := sound.2.2
  cases h : v.imageFlight <;> simp_all

/-- START (R4). -/
theorem keeps_startedUp (stopped : v.status = .stopped) : v.Keeps v.startedUp where
  timed _ := ⟨rfl, nofun⟩
  framer := id
  baseline sound := ⟨sound.1, nofun, by
    have := sound.flight_taken (by simp [stopped])
    cases h : v.imageFlight <;> simp_all [startedUp, acquiring]⟩

theorem BaselineSound.returned (sound : v.BaselineSound) : v.returned.BaselineSound := by
  unfold Surface.returned
  split
  next stalled =>
    have stalled : v.status = .stalled := by simpa using stalled
    have taken := sound.flight_taken (by simp [stalled])
    exact ⟨sound.1, nofun, by cases h : v.imageFlight <;> simp_all [acquiring]⟩
  next => exact sound

/-- A good IMAGE frame out of STOPPED starts the timer and reaches its slot (R7, R9, R24). -/
theorem keeps_imageArrives (state : v.status ≠ .stopped) (q : Byte) (f : ImageFrame) :
    v.Keeps { v.returned.goodFrame q with imageSlot := some f } where
  timed _ := by
    have arrived : (v.returned.goodFrame q).status.processing = true ∧
        (v.returned.goodFrame q).timer.isSome = true := by
      cases h : v.status <;> simp_all [Surface.returned, goodFrame, acquiring, SurfaceState.processing]
    obtain ⟨processing, timer⟩ := arrived
    exact ⟨timer.trans processing.symm, fun stops => by simp [processing] at stops⟩
  framer sound := by
    cases h : v.status <;> simpa [Surface.returned, goodFrame, acquiring, h] using sound
  baseline sound := sound.returned

/-- A good PEN frame notes its sequence and restarts a running timer (R7, R8). -/
theorem keeps_goodFrame (q : Byte) : v.Keeps (v.goodFrame q) where
  timed timed := by
    have timer : (v.goodFrame q).timer.isSome = v.status.processing := by
      have := timed.1
      cases h : v.status <;> simp_all [goodFrame, SurfaceState.processing]
    exact ⟨timer, timed.2⟩
  framer := id
  baseline := id

theorem keeps_penArrives (processing : v.status.processing = true) (f : PenFrame) :
    v.Keeps { v with penSlot := some f } where
  timed timed := ⟨timed.1, fun stops => by simp [processing] at stops⟩
  framer := id
  baseline := id

/-- A waiting IMAGE frame is put in flight (R25). -/
theorem keeps_takeImage {f : ImageFrame} (waits : v.imageSlot = some f) :
    v.Keeps { v with imageSlot := none, imageFlight := some { frame := f, progress := .taken } } where
  timed timed := ⟨timed.1, fun stops => by simpa [waits] using (timed.2 stops).1⟩
  framer := id
  baseline sound := ⟨sound.1, sound.2.1, rfl⟩

theorem keeps_takePen {f : PenFrame} (waits : v.penSlot = some f) :
    v.Keeps { v with penSlot := none, penFlight := some f } where
  timed timed := ⟨timed.1, fun stops => by simpa [waits] using (timed.2 stops).2.1⟩
  framer := id
  baseline := id

/-- The completion or abandonment of a frame in flight. -/
theorem keeps_imageFlight_none : v.Keeps { v with imageFlight := none } where
  timed timed := ⟨timed.1, fun stops => by
    obtain ⟨image, pen, -, flight⟩ := timed.2 stops
    exact ⟨image, pen, rfl, flight⟩⟩
  framer := id
  baseline sound := ⟨sound.1, sound.2.1, rfl⟩

theorem keeps_penFlight_none : v.Keeps { v with penFlight := none } where
  timed timed := ⟨timed.1, fun stops => by
    obtain ⟨image, pen, flight, -⟩ := timed.2 stops
    exact ⟨image, pen, flight, rfl⟩⟩
  framer := id
  baseline := id

/-- The completion of an acquisition frame (R40, R41). -/
theorem keeps_acquire (state : v.status = .acquiring) (image : Image) : v.Keeps (v.acquire image) := by
  have flight := keeps_imageFlight_none (v := v)
  simp only [acquire]
  split
  · exact ⟨fun timed => ⟨by simpa [state, SurfaceState.processing] using timed.1, nofun⟩, id, fun _ => ⟨nofun, fun _ => rfl, rfl⟩⟩
  · exact ⟨flight.timed, flight.framer, flight.baseline⟩

/-- A frame of a RUNNING surface goes on (R5, R37, R54). -/
theorem keeps_progress (state : v.status = .running) (flight : ImageFlight) :
    v.Keeps { v with imageFlight := some flight } where
  timed timed := ⟨timed.1, fun stops => by simp [state, SurfaceState.processing] at stops⟩
  framer := id
  baseline sound := ⟨sound.1, sound.2.1, by simp [state]⟩

/-- A frame past its baseline stage stays with its surface. -/
theorem keeps_progress_of_flight {flight : ImageFlight} (inFlight : v.imageFlight = some flight)
    (past : flight.progress ≠ .taken) (next : ImageFlight) : v.Keeps { v with imageFlight := some next } where
  timed timed := ⟨timed.1, fun stops => by
    obtain ⟨-, -, noFlight, -⟩ := timed.2 stops
    simp [inFlight] at noFlight⟩
  framer := id
  baseline sound := ⟨sound.1, sound.2.1, by
    have := sound.2.2
    simp [inFlight, past] at this
    simp [this]⟩

/-- The completion of a RUNNING frame: its changes of the baseline take hold (R37). -/
theorem keeps_completed {flight : ImageFlight} (inFlight : v.imageFlight = some flight)
    (past : flight.progress ≠ .taken) (f : ImageFrame) (u : BaselineUpdate) : v.Keeps (v.completed f u) where
  timed timed := ⟨timed.1, fun stops => by
    obtain ⟨image, pen, -, flight⟩ := timed.2 stops
    exact ⟨image, pen, rfl, flight⟩⟩
  framer := id
  baseline sound := by
    have running := sound.2.2
    simp [inFlight, past] at running
    refine ⟨fun invalid => ?_, sound.2.1, rfl⟩
    have valid := sound.2.1 running
    have invalid : v.baselineValid = false := invalid
    simp [valid] at invalid

end Surface

/-! ## Shared operations as chains of moves -/

/-- An END's offer, and the pending END it leaves (R160). -/
theorem State.offerEnd_eq (s : State) (e : PendingEnd) :
    s.offerEnd e = (s.offer e.sequence e.timestamp (.gestureEnd e.number e.reason 1)).2.withGesture
      { s.gesture with
        pendingEnd :=
          if (s.offer e.sequence e.timestamp (.gestureEnd e.number e.reason 1)).1.placed then none else some e } := by
  have gesture : (s.offer e.sequence e.timestamp (.gestureEnd e.number e.reason 1)).2.gesture = s.gesture :=
    congrArg Watched.gesture (s.offer_watched _ _ _)
  rw [← gesture]
  rfl

namespace Moves

variable (s : State)

theorem surface (i : SurfaceId) {v : Surface} (keeps : (s.surface i).Keeps v) : Moves s (s.withSurface i v) :=
  (Move.surface i keeps).moves

theorem countLink (i : SurfaceId) (f : LinkCounters → LinkCounters) : Moves s (s.countLink i f) :=
  surface s i ⟨id, id, id⟩

theorem raiseFault (k : FaultKind) (src : FaultSource) (q : Byte) (d : Nat) : Moves s (s.raiseFault k src q d) :=
  (Move.fault k src q d).moves

theorem offer (q : Byte) (u : BitVec 16) {b : Body} (general : b.isGeneral = true) : Moves s (s.offer q u b).2 :=
  (Move.offer q u general).moves

theorem noteWait : Moves s s.noteWait := Moves.unwatched rfl

theorem contacts {slots : List Slot} (keeps : TableSound s.slots s.nextContact → TableSound slots s.nextContact) :
    Moves s (s.withSlots slots) :=
  (Move.contacts (s := s) keeps).moves

theorem gesture {g : Gesture} (keeps : s.gesture.Sound → g.Sound) : Moves s (s.withGesture g) :=
  (Move.gesture keeps).moves

/-- A frame report: the offer, then what a placed report does to the slots (R104). -/
theorem offerFrameReport (q : Byte) (u : BitVec 16) (r : FrameReport) : Moves s (s.offerFrameReport q u r) := by
  have offered := offer s q u (b := .frameReport r) rfl
  obtain ⟨-, h⟩ | ⟨-, h⟩ := s.offerFrameReport_cases q u r
  · rwa [h]
  · have slots : (s.offer q u (.frameReport r)).2.slots = s.slots :=
      congrArg Watched.slots (s.offer_watched q u (.frameReport r))
    rw [h, ← slots]
    refine (offered.trans (contacts _ fun table => table.placed r.surface r.entries)).trans ?_
    exact Moves.unwatched rfl

theorem closingOnlyReport (i : SurfaceId) : Moves s (s.closingOnlyReport i) := by
  simp only [State.closingOnlyReport]
  split
  · exact .refl
  · exact offerFrameReport s _ _ _

theorem frameReport (i : SurfaceId) (f : ImageFrame) : Moves s (s.frameReport i f) := by
  unfold State.frameReport
  extract_lets v all full entries switchClosed switchChanged
  split
  · exact .refl
  · exact offerFrameReport s _ _ _

theorem endSlots (i : SurfaceId) : Moves s (s.endSlots i) := contacts s fun table => table.endEffect i

/-- An END that is not placed becomes the pending END; that needs the engine out of COMMITTED (R160). -/
theorem offerEnd (e : PendingEnd) (state : s.gesture.Sound → s.gesture.state ≠ .committed) :
    Moves s (s.offerEnd e) := by
  have gesture : (s.offer e.sequence e.timestamp (.gestureEnd e.number e.reason 1)).2.gesture = s.gesture :=
    congrArg Watched.gesture (s.offer_watched _ _ _)
  rw [s.offerEnd_eq]
  refine (offer s e.sequence e.timestamp (b := .gestureEnd e.number e.reason 1) rfl).trans ?_
  refine Moves.gesture _ fun sound => ?_
  rw [gesture] at sound
  exact sound.withPendingEnd fun _ => state sound

theorem retryEnd : Moves s s.retryEnd := by
  unfold State.retryEnd
  split
  next e pending => exact offerEnd s e fun sound => sound.2 (by simp [pending])
  next => exact .refl

theorem cancelOutside : Moves s s.cancelOutside := by
  unfold State.cancelOutside
  extract_lets g blocked after s'
  have cancelled : after.Sound ∧ after.state ≠ .committed := by
    simp only [after]
    split
    · exact ⟨g.block_unblock_sound, nofun⟩
    · exact ⟨g.block_sound, nofun⟩
  have moves : Moves s s' := gesture s fun _ => cancelled.1
  split
  · exact moves.trans (offerEnd s' _ fun _ => cancelled.2)
  · exact moves

/-! ### Events (R159, R160) -/

theorem offerEvent (q : Byte) (u : BitVec 16) (e : GestureEvent)
    (state : e.isEnd = true → s.gesture.state ≠ .committed) : Moves s (s.offerEvent q u e) := by
  cases e with
  | ended number reason => exact offerEnd s _ fun _ => state rfl
  | began b =>
    simp only [State.offerEvent]
    split
    · exact offer s q u rfl
    · exact (offer s q u rfl).trans (gesture _ fun _ => Gesture.block_sound _)
  | tapped code fingers duration => exact offer s q u rfl
  | updated event => exact offer s q u rfl
  | pressed code fingers => exact offer s q u rfl
  | released fingers => exact offer s q u rfl

/-- What becomes of an event leaves the engine's state, or blocks it (R159). -/
theorem offerEvent_state (q : Byte) (u : BitVec 16) (e : GestureEvent) :
    (s.offerEvent q u e).gesture.state = s.gesture.state ∨ (s.offerEvent q u e).gesture.state = .blocked := by
  have offered (b : Body) : (s.offer q u b).2.gesture = s.gesture := congrArg Watched.gesture (s.offer_watched q u b)
  cases e with
  | ended number reason =>
    obtain ⟨_, _, _, _, _, _, _, h⟩ := s.offerEnd_frame
      { number := number, reason := reason, sequence := q, timestamp := u }
    exact .inl (by rw [State.offerEvent, h])
  | began b =>
    simp only [State.offerEvent]
    split
    · exact .inl (by rw [offered])
    · exact .inr rfl
  | tapped code fingers duration => exact .inl (congrArg _ (offered _))
  | updated event => exact .inl (congrArg _ (offered _))
  | pressed code fingers => exact .inl (congrArg _ (offered _))
  | released fingers => exact .inl (congrArg _ (offered _))

theorem foldl_offerEvent (q : Byte) (u : BitVec 16) (events : List GestureEvent)
    (state : events.any GestureEvent.isEnd = true → s.gesture.state ≠ .committed) :
    Moves s (events.foldl (fun s e => s.offerEvent q u e) s) := by
  induction events generalizing s with
  | nil => exact .refl
  | cons e events ih =>
    refine (offerEvent s q u e fun isEnd => state (by simp [isEnd])).trans (ih _ fun later => ?_)
    have out := state (by simp only [List.any_cons, later, Bool.or_true])
    obtain same | blocked := offerEvent_state s q u e
    · rwa [same]
    · simp [blocked]

theorem offerEvents (q : Byte) (u : BitVec 16) (events : List GestureEvent)
    (state : events.any GestureEvent.isEnd = true → s.gesture.state ≠ .committed) :
    Moves s (s.offerEvents q u events) := by
  refine foldl_offerEvent s q u _ fun ended => state ?_
  obtain ⟨e, mem, isEnd⟩ := List.any_eq_true.mp ended
  obtain ⟨rank, -, mem⟩ := List.mem_flatMap.mp mem
  exact List.any_eq_true.mpr ⟨e, (List.mem_filter.mp mem).1, isEnd⟩

/-! ### Surface ends and rebases (R10 to R14) -/

theorem offerPenReport (q : Byte) (u : BitVec 16) (p : PenRecord) : Moves s (s.offerPenReport q u p) := by
  unfold State.offerPenReport
  split
  · exact offer s q u rfl
  · exact .refl

theorem endPen : Moves s s.endPen := by
  unfold State.endPen
  extract_lets before out done
  have moves : Moves s done := Moves.unwatched rfl
  split
  · exact moves
  · exact moves.trans (offerPenReport done _ _ _)

theorem endOwner (i : SurfaceId) : Moves s (s.endOwner i) := by
  cases i
  · exact cancelOutside s
  · exact endPen s

theorem abortCapture (i : SurfaceId) : Moves s (s.abortCapture i) := by
  obtain ⟨h, -⟩ | ⟨c, pending, -, h⟩ := s.abortCapture_cases i
  · rw [h]
  · rw [h]
    exact (Move.served (by simp [pending]) c.tag 11 .aborted []).moves

theorem endSurface (i : SurfaceId) {status : SurfaceState} (stops : status.processing = false) :
    Moves s (s.endSurface i status) :=
  (((((noteWait s).trans (surface _ i (Surface.keeps_ended stops))).trans (endSlots _ i)).trans
    (closingOnlyReport _ i)).trans (endOwner _ i)).trans (abortCapture _ i)

theorem rebaseSlots (i : SurfaceId) (keeps : (s.surface i).Keeps (s.surface i).acquiring) :
    Moves s (s.rebaseSlots i) :=
  ((surface s i keeps).trans (endSlots _ i)).trans (closingOnlyReport _ i)

theorem rebase (i : SurfaceId) (keeps : (s.surface i).Keeps (s.surface i).acquiring) : Moves s (s.rebase i) := by
  unfold State.rebase
  split
  · exact (rebaseSlots s i keeps).trans (cancelOutside _)
  · exact rebaseSlots s i keeps

/-! ### Frames taken, answers and captures (R25, R48, R175) -/

theorem takeImageUnless (held : Bool) (i : SurfaceId) : Moves s (s.takeImageUnless held i) := by
  obtain h | ⟨f, waits, -, -, h⟩ := s.takeImageUnless_cases held i
  · rw [h]
  · rw [h]
    exact surface s i (Surface.keeps_takeImage waits)

theorem takePenUnless (held : Bool) (i : SurfaceId) : Moves s (s.takePenUnless held i) := by
  obtain h | ⟨f, waits, -, -, h⟩ := s.takePenUnless_cases held i
  · rw [h]
  · rw [h]
    exact surface s i (Surface.keeps_takePen waits)

theorem takeFrames : Moves s s.takeFrames :=
  (((takeImageUnless s _ _).trans (takePenUnless _ _ _)).trans (takeImageUnless _ _ _)).trans (takePenUnless _ _ _)

theorem answer (waiting : s.buffer ≠ []) (r : Request) (rc : ResponseCode) (d : List Byte) :
    Moves s (s.answer r rc d) :=
  (Move.answered waiting r.tag r.code rc d).moves.trans (takeFrames _)

theorem serveCapture (i : SurfaceId) (kind : CaptureKind) (f : ImageFrame) (image : Image) :
    Moves s (s.serveCapture i kind f image) := by
  unfold State.serveCapture
  split
  next c pending =>
    split
    · extract_lets content
      have captured : Moves s (s.withCaptureBuffer (some content)) := Moves.unwatched rfl
      exact captured.trans (Move.served (by simp [pending]) c.tag 11 .ok content.responseData).moves
    · exact .refl
  next => exact .refl

theorem imageCompletes (i : SurfaceId) : Moves s (s.imageCompletes i) := by
  unfold State.imageCompletes State.takeImage
  split
  · exact (retryEnd s).trans (takeImageUnless _ _ i)
  · exact takeImageUnless s _ i

theorem setPacketError : Moves s s.setPacketError := Moves.unwatched rfl

theorem packetFault (tag : Byte) (reason : PacketReason) : Moves s (s.packetFault tag reason) := by
  have counted : Moves s { s with packetCrcCount := bump s.packetCrcCount 1 } := Moves.unwatched rfl
  unfold State.packetFault
  exact (counted.trans (raiseFault _ _ _ _ _)).trans (setPacketError _)

theorem takePosture (tag : Byte) (payload : List Byte) : Moves s (s.takePosture tag payload) := by
  obtain ⟨p, -, h⟩ | ⟨-, h⟩ := s.takePosture_cases tag payload
  · rw [h]
    exact Moves.unwatched rfl
  · rw [h]
    exact packetFault s tag _

theorem takeNotices (notices : List PostureNotice) : Moves s (s.takeNotices notices) := by
  unfold State.takeNotices
  induction notices generalizing s with
  | nil => exact .refl
  | cons n notices ih => exact (takePosture s n.tag n.payload).trans (ih _)

end Moves

end Sys2Proof.Machine
end

section
/-! PROOFS. Every command but the three of the clock is a chain of moves; the invariants of the whole state follow. -/

namespace Sys2Proof.Machine

namespace Moves

variable (s : State)

/-- A chain of moves after a change that no invariant speaks of. -/
theorem unwatched_trans {s t u : State} (moves : Moves t u) (same : t.watched = s.watched) : Moves s u :=
  (Moves.unwatched same).trans moves

/-! ## Scan links (R17 to R25, R28) -/

theorem withFramer (i : SurfaceId) {f : Framer} (sound : f.sound = true) : Moves s (s.withFramer i f) :=
  surface s i (Surface.keeps_framer sound)

theorem lengthFault (i : SurfaceId) (q : Byte) (reason : LengthReason) : Moves s (s.lengthFault i q reason) :=
  (countLink s i _).trans (raiseFault _ _ _ _ _)

theorem abandonPacket (i : SurfaceId) (header : Option ScanHeader) (reason : LengthReason) :
    Moves s (s.abandonPacket i header reason) := by
  unfold State.abandonPacket
  extract_lets s1
  have hunts : Moves s s1 := withFramer s i rfl
  split
  · exact hunts.trans (lengthFault s1 i _ reason)
  · exact hunts

theorem startDelimiter (i : SurfaceId) : Moves s (s.startDelimiter i) := by
  unfold State.startDelimiter
  split
  · exact withFramer s i rfl
  · exact .refl
  · exact .refl

theorem headerComplete (i : SurfaceId) (h : ScanHeader) : Moves s (s.headerComplete i h) := by
  unfold State.headerComplete
  split
  · split
    next small => exact withFramer s i (by simpa [Framer.sound] using small)
    next => exact .refl
  · exact .refl
  · exact .refl

theorem oversize (i : SurfaceId) (h : ScanHeader) : Moves s (s.oversize i h) := by
  unfold State.oversize
  split
  · split
    · exact abandonPacket s i _ _
    · exact .refl
  · exact .refl
  · exact .refl

theorem truncated (i : SurfaceId) : Moves s (s.truncated i) := by
  unfold State.truncated
  split
  · exact .refl
  · exact abandonPacket s i _ _
  · exact abandonPacket s i _ _

/-- The sequence check leaves the surface's state. -/
theorem sequenceCheck_status (i : SurfaceId) (pen : Bool) (q : Byte) (missed : Nat) :
    ((s.sequenceCheck i pen q missed).surface i).status = (s.surface i).status := by
  unfold State.sequenceCheck
  extract_lets v next s1
  have same : (s1.surface i).status = v.status := by
    cases pen <;> simp [s1, v, State.countLink]
  split
  · exact same
  · rw [← same]
    obtain ⟨f, q', a, h⟩ := s1.raiseFault_frame .seqGap (linkSource i) q missed
    rw [h]
    cases i <;> rfl

theorem sequenceCheck (i : SurfaceId) (pen : Bool) (q : Byte) (missed : Nat) :
    Moves s (s.sequenceCheck i pen q missed) := by
  unfold State.sequenceCheck
  extract_lets v next s1
  have moves : Moves s s1 := by
    refine (surface s i ?_).trans (countLink _ i _)
    cases pen
    · exact ⟨id, id, id⟩
    · exact ⟨id, id, id⟩
  split
  · exact moves
  · exact moves.trans (raiseFault s1 _ _ _ _)

theorem overrun (i : SurfaceId) (arriving replaced : Byte) : Moves s (s.overrun i arriving replaced) :=
  (countLink s i _).trans (raiseFault _ _ _ _ _)

theorem imageArrives (i : SurfaceId) (state : (s.surface i).status ≠ .stopped) (f : ImageFrame) :
    Moves s (s.imageArrives i f) := by
  unfold State.imageArrives
  extract_lets v
  split
  · exact (surface s i (Surface.keeps_imageArrives state _ _)).trans (takeImageUnless _ _ i)
  · exact (surface s i (Surface.keeps_imageArrives state _ _)).trans (overrun _ i _ _)

theorem penArrives (i : SurfaceId) (state : (s.surface i).status ≠ .stopped) (f : PenFrame) :
    Moves s (s.penArrives i f) := by
  unfold State.penArrives
  extract_lets v
  have noted : (s.surface i).Keeps v := Surface.keeps_goodFrame f.sequence
  split
  · exact surface s i noted
  next notStalled =>
    have processing : v.status.processing = true := by
      have same : v.status = (s.surface i).status := rfl
      cases h : v.status <;> simp_all [SurfaceState.processing]
    split
    · exact (surface s i (noted.trans (Surface.keeps_penArrives processing _))).trans (takePenUnless _ _ i)
    · exact (surface s i (noted.trans (Surface.keeps_penArrives processing _))).trans (overrun _ i _ _)

theorem goodPacket (i : SurfaceId) (h : ScanHeader) (payload : List Byte)
    (state : frameKind h.kind = true → (s.surface i).status ≠ .stopped) : Moves s (s.goodPacket i h payload) := by
  have isFrame (n : Nat) (kind : h.kind.toNat = n) (frame : n = 1 ∨ n = 2) : frameKind h.kind = true := by
    subst kind
    simpa [frameKind, ← BitVec.toNat_inj] using frame
  simp only [State.goodPacket]
  split
  next kind =>
    refine (sequenceCheck s i false h.sequence _).trans (imageArrives _ i ?_ _)
    rw [sequenceCheck_status]
    exact state (isFrame 1 kind (.inl rfl))
  next kind =>
    refine (sequenceCheck s i true h.sequence _).trans (penArrives _ i ?_ _)
    rw [sequenceCheck_status]
    exact state (isFrame 2 kind (.inr rfl))
  next => exact offer s _ _ rfl

theorem checkPacket (i : SurfaceId) (h : ScanHeader) (payload : List Byte) (crc : BitVec 16) :
    Moves s (s.checkPacket i h payload crc) := by
  simp only [State.checkPacket]
  split
  · exact .refl
  next examined =>
    split
    · exact (countLink s i _).trans (raiseFault _ _ _ _ _)
    · split
      · exact lengthFault s i _ _
      · exact goodPacket s i h payload (by simpa [not_imp_not] using fun frame stopped => examined (by simp [frame, stopped]))

theorem scanPacket (i : SurfaceId) (payload : List Byte) (crc : Byte × Byte) : Moves s (s.scanPacket i payload crc) := by
  unfold State.scanPacket
  split
  · split
    · extract_lets s1
      have hunts : Moves s s1 := withFramer s i rfl
      split
      · exact hunts.trans (checkPacket s1 i _ payload _)
      · exact hunts
    · exact .refl
  · exact .refl
  · exact .refl

theorem relayTransmitComplete (i : SurfaceId) : Moves s (s.relayTransmitComplete i) := surface s i ⟨id, id, id⟩

theorem frameTimeout (i : SurfaceId) : Moves s (s.frameTimeout i) := by
  unfold State.frameTimeout
  extract_lets v
  split
  · exact ((countLink s i _).trans (raiseFault _ _ _ _ _)).trans (endSurface _ i rfl)
  · exact .refl

/-! ## The stages of a frame (R37, R54, R86, R127) -/

theorem serveCapture_surface (i j : SurfaceId) (kind : CaptureKind) (f : ImageFrame) (image : Image) :
    (s.serveCapture i kind f image).surface j = s.surface j := by
  unfold State.serveCapture
  split
  · split
    · cases j <;> rfl
    · rfl
  · rfl

theorem acquisitionStage (i : SurfaceId) (state : (s.surface i).status = .acquiring) (f : ImageFrame) :
    Moves s (s.acquisitionStage i f) := by
  unfold State.acquisitionStage
  extract_lets v image
  have served : Moves s (s.noteWait.serveCapture i .raw f image) := (noteWait s).trans (serveCapture _ i .raw f image)
  have same : (s.noteWait.serveCapture i .raw f image).surface i = v := by
    rw [serveCapture_surface]
    cases i <;> rfl
  refine (served.trans (surface _ i ?_)).trans (imageCompletes _ i)
  rw [same]
  exact Surface.keeps_acquire state image

theorem automaticRebase (i : SurfaceId) (state : (s.surface i).status = .running) (f : ImageFrame) (magnitude : Nat) :
    Moves s (s.automaticRebase i f magnitude) := by
  unfold State.automaticRebase
  extract_lets s1 v s2
  have raised : Moves s s1 := ((noteWait s).trans (countLink _ i _)).trans (raiseFault _ _ _ _ _)
  have running : (s1.surface i).status = .running := by
    obtain ⟨f', q', a, h⟩ := (s.noteWait.countLink i
      (fun c => { c with autoRebases := bump c.autoRebases 1 })).raiseFault_frame .autoRebase (linkSource i) f.sequence
      magnitude
    simp only [s1, h]
    rw [← state]
    cases i <;> rfl
  have completed : Moves s (s1.withSurface i { s1.surface i with imageFlight := none }) :=
    raised.trans (surface s1 i Surface.keeps_imageFlight_none)
  have rebased : Moves s s2 := by
    refine completed.trans (rebaseSlots _ i ?_)
    rw [State.withSurface_surface]
    exact Surface.keeps_acquiring (by simp [running, SurfaceState.processing]) rfl
  split
  · exact (rebased.trans (cancelOutside s2)).trans (imageCompletes _ i)
  · exact rebased.trans (imageCompletes s2 i)

theorem runningStage (i : SurfaceId) (state : (s.surface i).status = .running) (f : ImageFrame) :
    Moves s (s.runningStage i f) := by
  unfold State.runningStage
  extract_lets v raw formed delta anomalous anomalies s1
  have served : Moves s s1 := (serveCapture s i .raw f _).trans (serveCapture _ i .delta f delta)
  have same : s1.surface i = v := by simp only [s1, serveCapture_surface, v]
  split
  · exact served.trans (automaticRebase s1 i (by rw [same]; exact state) f _)
  · refine served.trans (surface s1 i ?_)
    rw [same]
    exact Surface.keeps_progress state _

theorem baselineStage (i : SurfaceId) : Moves s (s.baselineStage i) := by
  unfold State.baselineStage
  split
  · split
    next state => exact acquisitionStage s i state _
    next state => exact runningStage s i state _
    next => exact .refl
    next => exact .refl
  · exact .refl

theorem regionStage (i : SurfaceId) : Moves s (s.regionStage i) := by
  unfold State.regionStage
  extract_lets v
  split
  next f delta update inFlight =>
    extract_lets parts kept seen regions s1
    have moves : Moves s s1 := surface s i (Surface.keeps_progress_of_flight inFlight nofun _)
    split
    · exact (moves.trans (countLink s1 i _)).trans (raiseFault _ _ _ _ _)
    · exact moves
  next => exact .refl

theorem tableFull (i : SurfaceId) (f : ImageFrame) (refused : Nat) : Moves s (s.tableFull i f refused) := by
  unfold State.tableFull
  split
  · exact .refl
  · exact (countLink s i _).trans (raiseFault _ _ _ _ _)

/-- Counting the refused regions changes the surface's counters, the fault record, the queue and the pin alone (R94). -/
theorem tableFull_frame (i : SurfaceId) (f : ImageFrame) (refused : Nat) :
    ∃ c x q a, s.tableFull i f refused =
      State.withSurface { s with fault := x, queue := q, attn := a } i { s.surface i with counters := c } := by
  unfold State.tableFull
  split
  · exact ⟨(s.surface i).counters, s.fault, s.queue, s.attn, by cases i <;> rfl⟩
  · obtain ⟨x, q, a, h⟩ := (s.countLink i (fun c => { c with tableFull := bump c.tableFull 1 })).raiseFault_frame
      .tableFull .tracker f.sequence refused
    exact ⟨{ (s.surface i).counters with tableFull := bump (s.surface i).counters.tableFull 1 }, x, q, a,
      by rw [h]; cases i <;> rfl⟩

/-- The stages up to the rejection stage change the table, the surface's counters, the fault record, the queue, the pin
and the mark of a waiting request alone. -/
theorem tableStages_frame (i : SurfaceId) (f : ImageFrame) (regions : List Region) :
    ∃ c x q a n l, s.tableStages i f regions =
      State.withSurface { s with headWaited := s.headWaited || s.headWaits, fault := x, queue := q, attn := a,
                                 nextContact := n, slots := l } i { s.surface i with counters := c } := by
  let admission := trackRegions i (s.surface i).geometry (s.surface i).detection f.elapsed regions s.slots s.nextContact
  obtain ⟨c, x, q, a, h⟩ := tableFull_frame s.noteWait i f admission.refused
  refine ⟨c, x, q, a, admission.nextContact, (s.rejectionInputs i).stage admission.slots, ?_⟩
  refine (congrArg (fun t : State => { t with nextContact := admission.nextContact,
                                              slots := (s.rejectionInputs i).stage admission.slots }) h).trans ?_
  cases i <;> rfl

theorem tableStages (i : SurfaceId) (f : ImageFrame) (regions : List Region) : Moves s (s.tableStages i f regions) := by
  unfold State.tableStages
  extract_lets v admission
  have counted : Moves s (s.noteWait.tableFull i f admission.refused) := (noteWait s).trans (tableFull _ i f _)
  refine counted.trans (Move.contacts fun table => ?_).moves
  obtain ⟨c, x, q, a, h⟩ := tableFull_frame s.noteWait i f admission.refused
  have slots : (s.noteWait.tableFull i f admission.refused).slots = s.slots := by rw [h]; simp
  have next : (s.noteWait.tableFull i f admission.refused).nextContact = s.nextContact := by rw [h]; simp
  rw [slots, next] at table
  exact (table.trackRegions i v.geometry v.detection f.elapsed regions).stage _

theorem finishFrame (i : SurfaceId) (f : ImageFrame) (events : List GestureEvent)
    (state : events.any GestureEvent.isEnd = true → s.gesture.state ≠ .committed) :
    Moves s (s.finishFrame i f events) := by
  unfold State.finishFrame
  extract_lets s1
  have reported : Moves s s1 := frameReport s i f
  cases i with
  | panel => exact reported.trans (takeImageUnless s1 _ _)
  | pad =>
    have sameState : s1.retryEnd.gesture.state = s.gesture.state := by
      obtain ⟨_, _, _, _, _, _, _, h⟩ := s1.retryEnd_frame
      obtain ⟨_, _, _, _, _, _, _, _, h'⟩ := s.frameReport_frame .pad f
      rw [h]
      simp only [s1, h']
    refine (reported.trans (retryEnd s1)).trans ((offerEvents _ _ _ events ?_).trans (takeImageUnless _ _ _))
    rw [sameState]
    exact state

/-- The gesture stage keeps the slots' invariant; PANEL has none (R86). -/
theorem gestureStageOf_tableSound (i : SurfaceId) (f : ImageFrame) {next : Nat} (table : TableSound s.slots next) :
    TableSound (s.gestureStageOf i f).slots next := by
  cases i
  · exact table.gestureStage
  · exact table

theorem gestureStageOf_sound (i : SurfaceId) (f : ImageFrame) (sound : s.gesture.Sound) :
    (s.gestureStageOf i f).engine.Sound := by
  cases i
  · exact gestureStage_sound sound s.slots
  · exact sound

theorem gestureStageOf_endsOut (i : SurfaceId) (f : ImageFrame) : (s.gestureStageOf i f).EndsOut := by
  cases i
  · exact gestureStage_endsOut s.slots
  · exact nofun

theorem takeNotices_surface (notices : List PostureNotice) (i : SurfaceId) :
    (s.takeNotices notices).surface i = s.surface i := by
  obtain ⟨_, _, _, _, _, _, _, h⟩ := s.takeNotices_frame notices
  rw [h]
  cases i <;> rfl

theorem takeNotices_gesture (notices : List PostureNotice) : (s.takeNotices notices).gesture = s.gesture := by
  obtain ⟨_, _, _, _, _, _, _, h⟩ := s.takeNotices_frame notices
  rw [h]

theorem tableStages_imageFlight (i : SurfaceId) (f : ImageFrame) (regions : List Region) :
    ((s.tableStages i f regions).surface i).imageFlight = (s.surface i).imageFlight := by
  obtain ⟨_, _, _, _, _, _, h⟩ := tableStages_frame s i f regions
  rw [h, State.withSurface_surface]

theorem trackFrame (run : TrackingRun) (f : ImageFrame) (regions : List Region) (u : BaselineUpdate)
    {flight : ImageFlight} (inFlight : (s.surface run.surface).imageFlight = some flight)
    (past : flight.progress ≠ .taken) : Moves s (s.trackFrame run f regions u) := by
  unfold State.trackFrame
  extract_lets i s1 r s2
  have tracked : Moves s s1 := (tableStages s i f regions).trans (takeNotices _ _)
  have closed : Moves s1 (s1.withFreeRead.withSlots r.slots) :=
    (Moves.unwatched (s := s1) (t := s1.withFreeRead) rfl).trans
      (contacts _ fun table => gestureStageOf_tableSound s1 i f table)
  have staged : Moves s1 ((s1.withFreeRead.withSlots r.slots).withGesture r.engine) :=
    closed.trans (gesture _ fun sound => gestureStageOf_sound s1 i f sound)
  have noticed : Moves s1 s2 := staged.trans (takeNotices _ _)
  have engine : s2.gesture = r.engine := takeNotices_gesture _ _
  have sameFlight : (s2.surface i).imageFlight = some flight := by
    rw [takeNotices_surface, State.withGesture_surface, State.withSlots_surface, State.withFreeRead_surface,
      takeNotices_surface, tableStages_imageFlight, inFlight]
  refine (tracked.trans noticed).trans ((surface s2 i (Surface.keeps_completed sameFlight past f u)).trans ?_)
  refine finishFrame _ i f r.events fun ended => ?_
  rw [State.withSurface_gesture, engine]
  exact gestureStageOf_endsOut s1 i f ended

theorem trackingStep (run : TrackingRun) : Moves s (s.trackingStep run) := by
  unfold State.trackingStep
  split
  next inFlight => exact trackFrame s run _ _ _ inFlight nofun
  next => exact .refl

theorem completePen (p : PenRecord) (linger : Option Linger) (q : Byte) : Moves s (s.completePen p linger q) := by
  have noted : Moves s ((s.withPen { p with lastSequence := q }).withLinger linger) := Moves.unwatched rfl
  exact noted.trans (surface _ .panel (v := { s.panel with penFlight := none }) Surface.keeps_penFlight_none)

theorem countWord (q : Byte) (word : Option (BitVec 26)) : Moves s (s.countWord q word) := by
  unfold State.countWord
  split
  · exact .refl
  · split
    · exact Moves.unwatched rfl
    · exact .refl
    · exact unwatched_trans (raiseFault _ _ _ _ _) rfl

theorem penStage : Moves s s.penStage := by
  unfold State.penStage
  split
  next f _ =>
    extract_lets sense drive
    refine Relation.ReflTransGen.trans ?_ (takePenUnless _ _ _)
    split
    · exact (((noteWait s).trans (countWord _ _ _)).trans (completePen _ _ _ _)).trans (offerPenReport _ _ _ _)
    · unfold State.penFrameAbsent
      extract_lets aged left p done
      have moves : Moves s done := (noteWait s).trans (completePen _ _ _ _)
      split
      · exact moves
      · exact moves.trans (offerPenReport done _ _ _)
  next => exact .refl

/-! ## The system link (R168 to R172) -/

theorem keyActivity : Moves s s.keyActivity := by
  unfold State.keyActivity
  split
  · exact Moves.unwatched rfl
  · exact .refl

theorem takeKeyActivity (tag : Byte) (payload : List Byte) : Moves s (s.takeKeyActivity tag payload) := by
  unfold State.takeKeyActivity
  split
  · exact keyActivity s
  · exact packetFault s tag _

theorem setRequestRefused : Moves s s.setRequestRefused := Moves.unwatched rfl

theorem intake (r : Request) : Moves s (s.intake r) := by
  unfold State.intake
  split
  next room => exact (Move.accepted room r).moves
  next =>
    refine Relation.ReflTransGen.trans ?_ (setRequestRefused _)
    exact unwatched_trans (raiseFault _ _ _ _ _) rfl

theorem takePut (bytes : List Byte) : Moves s (s.takePut bytes) := by
  unfold State.takePut
  split
  · exact (Moves.unwatched (s := s) (t := s.withFreeRead) rfl).trans (packetFault _ _ _)
  · unfold State.takePacket
    split
    · exact intake s _
    · split
      · exact takePosture s _ _
      · exact takeKeyActivity s _ _
      · exact packetFault s _ _

theorem retryClosing (i : SurfaceId) : Moves s (s.retryClosing i) := by
  unfold State.retryClosing
  split
  · exact closingOnlyReport s i
  · exact .refl

theorem retryClosings : Moves s s.retryClosings := (retryClosing s .pad).trans (retryClosing _ .panel)

theorem withFreeRead : Moves s s.withFreeRead := Moves.unwatched rfl

theorem afterRemoval : Moves s s.afterRemoval := by
  unfold State.afterRemoval
  split
  · split
    · exact ((withFreeRead s).trans (retryEnd _)).trans (retryClosings _)
    · exact ((withFreeRead s).trans (retryClosings _)).trans (retryEnd _)
  · exact (retryClosings s).trans (retryEnd _)

theorem release (t : Transaction) (sent : Nat) : Moves s (s.release t sent) := by
  unfold State.release
  extract_lets s1 s2
  have cleared : Moves s s2 := by
    simp only [s2]
    split
    · exact Moves.unwatched rfl
    · exact Moves.unwatched rfl
  split
  · exact (cleared.trans Move.removed.moves).trans (afterRemoval _)
  · exact cleared

/-! ## Requests (R175 to R186) -/

/-- A row of a request: a check that fails is answered; otherwise the request waits or runs (R175, R176). -/
theorem runHead {code : Nat} {run : State → Request → State}
    (runs : ∀ r, s.AtHead r code → s.headWaits = false → Moves s (run s r)) : Moves s (s.runHead code run) := by
  unfold State.runHead
  split
  · exact .refl
  next r rest buffer =>
    split
    · exact .refl
    next known =>
      have known : s.started = true ∧ r.code.toNat = code := by simpa using known
      split
      · exact answer s (by simp [buffer]) _ _ _
      next passes =>
        split
        · exact .refl
        next waitsNot => exact runs r ⟨known.1, by simp [buffer], known.2, passes⟩ (by simpa using waitsNot)

theorem unknownHead : Moves s s.unknownHead := by
  unfold State.unknownHead
  split
  · exact .refl
  next buffer =>
    split
    · exact .refl
    · exact answer s (by simp [buffer]) _ _ _

section AtHead

variable {s} {r : Request} (waiting : s.buffer ≠ [])
include waiting

theorem runStart : Moves s (s.runStart r) := by
  unfold State.runStart
  extract_lets v
  split
  · exact answer s waiting _ _ _
  next stopped =>
    split
    · exact answer s waiting _ _ _
    · refine (surface s r.surface (Surface.keeps_startedUp ?_)).trans (answer _ (by simpa using waiting) _ _ _)
      simpa using stopped

theorem runStop : Moves s (s.runStop r) := by
  unfold State.runStop
  split
  · exact answer s waiting _ _ _
  · refine (endSurface s r.surface rfl).trans (answer _ ?_ _ _ _)
    obtain ⟨_, _, _, _, _, _, _, _, _, _, _, _, h⟩ := s.endSurface_frame r.surface .stopped
    rw [h]
    simpa using waiting

omit waiting in
theorem rebaseSlots_buffer (s : State) (i : SurfaceId) : (s.rebaseSlots i).buffer = s.buffer := by
  obtain ⟨_, _, _, _, _, _, _, _, h⟩ := State.closingOnlyReport_frame
    ((s.withSurface i (s.surface i).acquiring).endSlots i) i
  rw [State.rebaseSlots, h]
  simp [State.endSlots]

omit waiting in
theorem cancelOutside_buffer (s : State) : s.cancelOutside.buffer = s.buffer := by
  obtain ⟨_, _, _, _, _, _, _, h⟩ := s.cancelOutside_frame
  rw [h]

omit waiting in
theorem rebase_buffer (s : State) (i : SurfaceId) : (s.rebase i).buffer = s.buffer := by
  unfold State.rebase
  split
  · rw [cancelOutside_buffer, rebaseSlots_buffer]
  · rw [rebaseSlots_buffer]

theorem runRebase (noFlight : (s.surface r.surface).imageFlight = none) : Moves s (s.runRebase r) := by
  have rebased (processing : (s.surface r.surface).status.processing = true) :
      Moves s ((s.rebase r.surface).answer r .ok []) := by
    refine (rebase s r.surface (Surface.keeps_acquiring processing (by simp [noFlight]))).trans (answer _ ?_ _ _ _)
    rwa [rebase_buffer]
  unfold State.runRebase
  split
  next state => exact rebased (by simp [state, SurfaceState.processing])
  next state => exact rebased (by simp [state, SurfaceState.processing])
  · exact answer s waiting _ _ _
  · exact answer s waiting _ _ _

/-- A surface's context is rewritten, and the request answered. -/
theorem surface_answer (i : SurfaceId) {v : Surface} (keeps : (s.surface i).Keeps v) (rc : ResponseCode)
    (d : List Byte) : Moves s ((s.withSurface i v).answer r rc d) :=
  (surface s i keeps).trans (answer _ (by simpa using waiting) _ _ _)

theorem runLoadTable : Moves s (s.runLoadTable r) := by
  have refused (rc : ResponseCode) : Moves s (s.answer r rc []) := answer s waiting r rc []
  unfold State.runLoadTable
  split
  · exact refused _
  · unfold State.loadLineMap
    extract_lets v
    split
    · exact refused _
    · split
      · exact refused _
      · exact surface_answer waiting _ (by exact ⟨id, id, id⟩) _ _
  · unfold State.loadClass
    extract_lets v
    split
    · exact refused _
    · split
      · exact refused _
      · exact surface_answer waiting _ (by exact ⟨id, id, id⟩) _ _
  · unfold State.loadZone
    extract_lets v
    split
    · exact refused _
    · split
      · exact refused _
      · exact surface_answer waiting _ (by exact ⟨id, id, id⟩) _ _
  · unfold State.loadGesture
    split
    · exact refused _
    · split
      · exact refused _
      · exact unwatched_trans (answer _ (by exact waiting) _ _ _) rfl
  · simp only [State.loadCurve]
    split
    · exact refused _
    · split
      · exact refused _
      · split
        · exact refused _
        · exact unwatched_trans (answer _ (by exact waiting) _ _ _) rfl

theorem runReadTable : Moves s (s.runReadTable r) := by
  unfold State.runReadTable
  split
  · exact answer s waiting _ _ _
  · extract_lets count
    split
    · exact answer s waiting _ _ _
    · split
      · exact answer s waiting _ _ _
      · split
        · exact answer s waiting _ _ _
        · exact answer s waiting _ _ _

theorem setReporting : Moves s (s.setReporting r) := by
  unfold State.setReporting
  extract_lets v
  split
  · exact answer s waiting _ _ _
  · extract_lets block s1
    have written : Moves s s1 := surface s r.surface ⟨id, id, id⟩
    have still : s1.buffer ≠ [] := by simpa [s1] using waiting
    split
    · refine (written.trans (cancelOutside s1)).trans (answer _ ?_ _ _ _)
      rwa [cancelOutside_buffer]
    · exact written.trans (answer s1 still _ _ _)

omit waiting in
theorem clampNat_le {lo hi : Nat} (le : lo ≤ hi) (v : Nat) : clampNat lo hi v ≤ hi := by
  unfold clampNat
  omega

theorem runSetParams : Moves s (s.runSetParams r) := by
  have refused (rc : ResponseCode) : Moves s (s.answer r rc []) := answer s waiting r rc []
  unfold State.runSetParams
  split
  · exact refused _
  · unfold State.setGeometry
    extract_lets v
    split
    · exact refused _
    · split
      · exact refused _
      · refine surface_answer waiting _ ?_ _ _
        exact ⟨id, id, fun sound => ⟨fun _ => rfl, sound.2⟩⟩
  · unfold State.setDetection
    extract_lets v sent
    split
    · exact refused _
    · split
      · exact refused _
      · exact surface_answer waiting _ (by exact ⟨id, id, id⟩) _ _
  · exact setReporting waiting
  · split
    · exact unwatched_trans (answer _ (by exact waiting) _ _ _) rfl
    · unfold State.setPanelRejection
      split
      · exact refused _
      · exact unwatched_trans (answer _ (by exact waiting) _ _ _) rfl
  · exact unwatched_trans (answer _ (by exact waiting) _ _ _) rfl
  · exact (Move.queueBlock (clampNat_le (by decide) _)).moves.trans (answer _ (by exact waiting) _ _ _)

theorem runReadParams : Moves s (s.runReadParams r) := by
  unfold State.runReadParams
  split
  · exact answer s waiting _ _ _
  · split
    · exact answer s waiting _ _ _
    · exact (withFreeRead s).trans (answer _ (by exact waiting) _ _ _)

theorem runReadStatus : Moves s (s.runReadStatus r) := by
  unfold State.runReadStatus
  split
  · exact answer s waiting _ _ _
  · exact answer s waiting _ _ _

theorem runClearFault : Moves s (s.runClearFault r) := by
  have emptied : Moves s (s.withFault none) := Moves.unwatched rfl
  unfold State.runClearFault
  extract_lets s1
  split
  · have pad : Moves s1 (s1.withSurface .pad { s1.pad with counters := .zero }) := surface s1 .pad ⟨id, id, id⟩
    have panel := surface (s1.withSurface .pad { s1.pad with counters := .zero }) .panel
      (v := { s1.panel with counters := .zero }) ⟨id, id, id⟩
    have cleared : Moves s1 s1.clearCounters := (pad.trans panel).trans (Moves.unwatched rfl)
    exact (emptied.trans cleared).trans (answer _ (by exact waiting) _ _ _)
  · exact emptied.trans (answer s1 (by exact waiting) _ _ _)

theorem runCapture : Moves s (s.runCapture r) := by
  unfold State.runCapture
  extract_lets status
  split
  · exact answer s waiting _ _ _
  · split
    · exact answer s waiting _ _ _
    · split
      · exact answer s waiting _ _ _
      · split
        · exact unwatched_trans (answer _ (by exact waiting) _ _ _) rfl
        · exact (Move.captureHeld waiting _).moves.trans (takeFrames _)

theorem runReadCapture : Moves s (s.runReadCapture r) := by
  unfold State.runReadCapture
  extract_lets offset count
  split
  · exact answer s waiting _ _ _
  · extract_lets size most
    split
    · exact answer s waiting _ _ _
    · split
      · exact answer s waiting _ _ _
      · split
        · exact answer s waiting _ _ _
        · exact answer s waiting _ _ _

theorem runRelay : Moves s (s.runRelay r) := by
  unfold State.runRelay
  extract_lets v
  split
  · exact answer s waiting _ _ _
  · exact surface_answer waiting _ (by exact ⟨id, id, id⟩) _ _

end AtHead

end Moves

end Sys2Proof.Machine
end

section
/-! PROOFS. What every step keeps: the invariants of the queue, the surfaces, the contact table and the engine, and the
clock (R7, R13, R17, R36, R41, R84, R145, R162, R184). -/

namespace Sys2Proof.Machine

/-! ## Every command is a chain of moves, but for the three of the clock -/

theorem Moves.ite {s t : State} {c : Prop} [Decidable c] (moves : Moves s t) : Moves s (if c then t else s) := by
  split
  · exact moves
  · exact .refl

theorem State.AtHead.buffer_ne_nil {s : State} {r : Request} {code : Nat} (atHead : s.AtHead r code) :
    s.buffer ≠ [] := by
  obtain ⟨-, head, -, -⟩ := atHead
  rintro empty
  simp [empty] at head

/-- A REBASE that waits for no frame finds no IMAGE frame in flight (R10). -/
theorem State.AtHead.rebase_imageFlight {s : State} {r : Request} (atHead : s.AtHead r 4)
    (waitsNot : s.headWaits = false) : (s.surface r.surface).imageFlight = none := by
  obtain ⟨-, head, code, passes⟩ := atHead
  obtain ⟨rest, buffer⟩ := List.head?_eq_some_iff.mp head
  simpa [State.headWaits, State.headClaim, buffer, passes, code] using waitsNot

/-- A row that waits for a request at the head is a chain of moves when what it runs is one. -/
theorem exec_request_moves {s : State} {code : Nat} {run : State → Request → State}
    (runs : ∀ r, s.buffer ≠ [] → Moves s (run s r)) : Moves s (s.runHead code run) :=
  Moves.runHead s fun r atHead _ => runs r atHead.buffer_ne_nil

theorem exec_moves (c : Instr) (s : State) (notReset : ∀ source, c ≠ .hardwareReset source)
    (notStartUp : ∀ straps, c ≠ .startUp straps) (notTick : c ≠ .timeBaseTick) :
    ∃ t, exec c s = .next t ∧ Moves s t := by
  cases c with
  | hardwareReset source => exact absurd rfl (notReset source)
  | startUp straps => exact absurd rfl (notStartUp straps)
  | timeBaseTick => exact absurd rfl notTick
  | scanPacket link payload crc => exact ⟨_, rfl, Moves.scanPacket s link payload crc⟩
  | oversize link header => exact ⟨_, rfl, Moves.oversize s link header⟩
  | truncated link => exact ⟨_, rfl, Moves.truncated s link⟩
  | frameTimeout surface => exact ⟨_, rfl, (Moves.frameTimeout s surface).ite⟩
  | baselineStage surface => exact ⟨_, rfl, (Moves.baselineStage s surface).ite⟩
  | regionStage surface => exact ⟨_, rfl, (Moves.regionStage s surface).ite⟩
  | trackingStep run => exact ⟨_, rfl, (Moves.trackingStep s run).ite⟩
  | penStage => exact ⟨_, rfl, (Moves.penStage s).ite⟩
  | typingGuardExpiry =>
    refine ⟨_, rfl, Moves.ite ?_⟩
    unfold State.typingGuardExpiry
    exact Moves.ite (Moves.unwatched rfl)
  | lingerDeadline =>
    refine ⟨_, rfl, Moves.ite ?_⟩
    unfold State.lingerDeadline
    split
    · exact Moves.ite (Moves.unwatched rfl)
    · exact .refl
  | relayTransmitComplete link => exact ⟨_, rfl, Moves.relayTransmitComplete s link⟩
  | put bytes => exact ⟨_, rfl, (Moves.takePut s bytes).ite⟩
  | posture tag payload => exact ⟨_, rfl, (Moves.takePosture s tag payload).ite⟩
  | keyActivity tag payload => exact ⟨_, rfl, (Moves.takeKeyActivity s tag payload).ite⟩
  | take => exact ⟨_, rfl, Moves.ite (Moves.unwatched rfl)⟩
  | status => exact ⟨_, rfl, Moves.ite (Moves.unwatched rfl)⟩
  | unknownTransactionCode code => exact ⟨_, rfl, Moves.ite (Moves.unwatched rfl)⟩
  | transactionRelease sent =>
    refine ⟨_, rfl, ?_⟩
    split
    · exact Moves.release s _ sent
    · exact .refl
  | attnMaxDelay => exact ⟨_, rfl, Moves.ite (Moves.unwatched rfl)⟩
  | unknownRequest => exact ⟨_, rfl, Moves.unknownHead s⟩
  | describe => exact ⟨_, rfl, exec_request_moves fun r waiting => Moves.answer s waiting r _ _⟩
  | start => exact ⟨_, rfl, exec_request_moves fun _ waiting => Moves.runStart waiting⟩
  | stop => exact ⟨_, rfl, exec_request_moves fun _ waiting => Moves.runStop waiting⟩
  | rebase =>
    exact ⟨_, rfl, Moves.runHead s fun _ atHead waitsNot =>
      Moves.runRebase atHead.buffer_ne_nil (atHead.rebase_imageFlight waitsNot)⟩
  | loadTable => exact ⟨_, rfl, exec_request_moves fun _ waiting => Moves.runLoadTable waiting⟩
  | readTable => exact ⟨_, rfl, exec_request_moves fun _ waiting => Moves.runReadTable waiting⟩
  | setParams => exact ⟨_, rfl, exec_request_moves fun _ waiting => Moves.runSetParams waiting⟩
  | readParams => exact ⟨_, rfl, exec_request_moves fun _ waiting => Moves.runReadParams waiting⟩
  | readStatus => exact ⟨_, rfl, exec_request_moves fun _ waiting => Moves.runReadStatus waiting⟩
  | clearFault => exact ⟨_, rfl, exec_request_moves fun _ waiting => Moves.runClearFault waiting⟩
  | capture => exact ⟨_, rfl, exec_request_moves fun _ waiting => Moves.runCapture waiting⟩
  | readCapture => exact ⟨_, rfl, exec_request_moves fun _ waiting => Moves.runReadCapture waiting⟩
  | relay => exact ⟨_, rfl, exec_request_moves fun _ waiting => Moves.runRelay waiting⟩
  | softReset => exact ⟨_, rfl, exec_request_moves fun r waiting => (Move.softReset waiting r).moves⟩
  | fullReset => exact ⟨_, rfl, Moves.runHead s fun r atHead _ => (Move.fullReset atHead.1 r).moves⟩
  | startDelimiter link => exact ⟨_, rfl, Moves.startDelimiter s link⟩
  | headerComplete link header => exact ⟨_, rfl, Moves.headerComplete s link header⟩

/-! ## Reset values -/

theorem State.reset_sound : State.reset.Sound := by
  refine ⟨by decide, ⟨Surface.atReset_timed, Surface.atReset_timed⟩,
    ⟨Surface.atReset_baselineSound, Surface.atReset_baselineSound⟩, tableSound_atReset, Gesture.atReset_sound, by decide⟩

theorem State.hardwareReset_sound (s : State) (source : ResetSource) : (s.hardwareReset source).Sound :=
  State.reset_sound

theorem State.startUp_sound (s : State) (straps : Straps) : (s.startUp straps).Sound := State.reset_sound

/-! ## The step -/

/-- A property of every sound state, which no command waiting bears on and which a tick and every move keep, is kept by
every step. -/
theorem step_keeps {P : State → Prop} (pending : ∀ (s : State) q, P s → P (s.withPending q))
    (sound : ∀ s : State, s.Sound → P s)
    (tick : ∀ s : State, P s → P s.timeBaseTick) (moves : ∀ s t, Moves s t → P s → P t) (s t : State) (start : P s)
    (stepped : step s = .next t) : P t := by
  have kept (c : Instr) (s : State) (start : P s) : ∀ t, exec c s = .next t → P t := by
    by_cases isReset : ∃ source, c = .hardwareReset source
    · obtain ⟨source, rfl⟩ := isReset
      rintro _ ⟨⟩
      exact sound _ (s.hardwareReset_sound source)
    by_cases isStartUp : ∃ straps, c = .startUp straps
    · obtain ⟨straps, rfl⟩ := isStartUp
      rintro _ ⟨⟩
      split
      · exact start
      · exact sound _ (s.startUp_sound straps)
    by_cases isTick : c = .timeBaseTick
    · subst isTick
      rintro _ ⟨⟩
      split
      · exact tick s start
      · exact start
    obtain ⟨u, runs, chain⟩ := exec_moves c s (fun source is => isReset ⟨source, is⟩)
      (fun straps is => isStartUp ⟨straps, is⟩) isTick
    rintro t ran
    obtain rfl : u = t := by simpa [runs] using ran
    exact moves s u chain start
  unfold step at stepped
  split at stepped
  · obtain rfl : s = t := by simpa using stepped
    exact start
  next c rest _ => exact kept c _ (pending s rest start) t stepped

/-- Settles O1: `step` is defined so. -/
theorem stepRunsTheFrontCommand : Obligations.StepRunsTheFrontCommand := by
  refine ⟨fun s c rest waits => ?_, fun s idle => ?_⟩
  · rw [step, waits]
    rfl
  · rw [step, idle]

/-- Settles O2: no move touches the clock, a tick advances the time base alone of it, and the two resets keep the queue
of commands. -/
theorem clockAndStrapsHaveTheirOwners : Obligations.ClockAndStrapsHaveTheirOwners := by
  intro c s
  by_cases isReset : ∃ source, c = .hardwareReset source
  · obtain ⟨source, rfl⟩ := isReset
    exact ⟨_, rfl, rfl, fun not => absurd rfl (not source)⟩
  by_cases isStartUp : ∃ straps, c = .startUp straps
  · obtain ⟨straps, rfl⟩ := isStartUp
    refine ⟨_, rfl, ?_, fun _ not => absurd rfl (not straps)⟩
    split <;> rfl
  by_cases isTick : c = .timeBaseTick
  · subst isTick
    refine ⟨_, rfl, ?_⟩
    split <;> exact ⟨rfl, fun _ _ => ⟨rfl, rfl, rfl, fun not => absurd rfl not⟩⟩
  obtain ⟨t, runs, chain⟩ := exec_moves c s (fun source is => isReset ⟨source, is⟩)
    (fun straps is => isStartUp ⟨straps, is⟩) isTick
  have clock := chain.clock_eq
  exact ⟨t, runs, congrArg Clock.pending clock, fun _ _ => ⟨congrArg Clock.started clock, congrArg Clock.straps clock,
    congrArg Clock.cyclesPerTick clock, fun _ => congrArg Clock.time clock⟩⟩

/-- Settles O3: both resets leave the reset values of everything the invariants speak of. -/
theorem resetsLeaveSoundStates : Obligations.ResetsLeaveSoundStates := by
  refine ⟨State.reset_sound, ?_, ?_⟩
  · rintro source s _ ⟨⟩
    exact s.hardwareReset_sound source
  · rintro straps s t notStarted ran
    obtain rfl : s.startUp straps = t := by simpa [exec, execStartUp, notStarted] using ran
    exact s.startUp_sound straps

/-- Settles O4: every move keeps the places of the queue and the budget. -/
theorem queueStaysBounded : Obligations.QueueStaysBounded :=
  step_keeps (P := State.QueueBounded) (fun _ _ => id) (fun _ ⟨queue, _⟩ => queue) (fun _ => id)
    (fun _ _ moves => moves.keep (P := State.QueueBounded) Move.queueBounded)

/-- A tick keeps what surfaces keep: a running timer goes on running. -/
theorem Surface.keeps_countDown (v : Surface) : v.Keeps { v with timer := countDown v.timer } where
  timed timed := ⟨by simpa [countDown] using timed.1, timed.2⟩
  framer := id
  baseline := id

/-- Settles O5: every move and every tick keeps both invariants of each surface. -/
theorem timersAndFramersFollowTheirStates : Obligations.TimersAndFramersFollowTheirStates := by
  constructor
  · refine step_keeps (P := State.Timed) (fun _ _ => id) (fun _ ⟨_, timed, _⟩ => timed) ?_ ?_
    · exact fun s timed => ⟨(s.pad.keeps_countDown).timed timed.1, (s.panel.keeps_countDown).timed timed.2⟩
    · exact fun s t moves timed =>
        ⟨(moves.surface_keeps .pad).timed timed.1, (moves.surface_keeps .panel).timed timed.2⟩
  · refine step_keeps (P := State.FramerSound) (fun _ _ => id)
      (fun _ ⟨_, _, _, _, _, framer⟩ => framer)
      (fun _ => id) ?_
    exact fun s t moves sound =>
      ⟨(moves.surface_keeps .pad).framer sound.1, (moves.surface_keeps .panel).framer sound.2⟩

/-- Settles O6: every move keeps the baseline's invariant of each surface. -/
theorem baselineValidMarkIsTrue : Obligations.BaselineValidMarkIsTrue :=
  step_keeps (P := State.BaselineSound) (fun _ _ => id) (fun _ ⟨_, _, baseline, _⟩ => baseline) (fun _ => id) fun _ _ moves sound =>
      ⟨(moves.surface_keeps .pad).baseline sound.1, (moves.surface_keeps .panel).baseline sound.2⟩

/-- Settles O7: every move keeps the contact table's invariant. -/
theorem contactTableStaysSound : Obligations.ContactTableStaysSound :=
  step_keeps (P := State.ContactsSound) (fun _ _ => id) (fun _ ⟨_, _, _, contacts, _⟩ => contacts) (fun _ => id)
    (fun _ _ moves => moves.keep (P := State.ContactsSound) Move.contactsSound)

/-- Settles O8: every move keeps the engine's invariant. -/
theorem committedGestureMatchesEngine : Obligations.CommittedGestureMatchesEngine :=
  step_keeps (P := State.GestureSound) (fun _ _ => id) (fun _ ⟨_, _, _, _, gesture, _⟩ => gesture) (fun _ => id)
    (fun _ _ moves => moves.keep (P := State.GestureSound) Move.gestureSound)

end Sys2Proof.Machine
end

section
/-! PROOFS. The resets, START_UP and the tick as whole states (R170, R184 to R186). -/

namespace Sys2Proof.Machine

variable {s : State} {r : Request}

/-! ## A RESPONSE asserts the attention line (R173) -/

/-- A RESPONSE in the queue asserts ATTN from start-up on (R173, R184). -/
theorem State.respond_eq (s : State) (tag code : Byte) (rc : ResponseCode) (d : List Byte) :
    s.respond tag code rc d = { s with
      queue := s.queue ++ [{ sequence := tag, timestamp := low16 s.time, placed := s.time,
                             body := .response code rc d }]
      attn := s.started } := by
  let placed : State := { s with
    queue := s.queue ++ [{ sequence := tag, timestamp := low16 s.time, placed := s.time,
                           body := .response code rc d }] }
  have responses : placed.responseCount ≠ 0 := by
    simp [placed, State.responseCount, List.countP_append, Body.isResponse]
  have due : placed.attnDue = s.started := by
    have : (placed.responseCount != 0) = true := by simpa using responses
    simp only [State.attnDue, this, Bool.or_true, Bool.true_or, Bool.and_true]
    rfl
  change { placed with attn := placed.attnDue } = _
  rw [due]

theorem State.respond_of_started (started : s.started = true) (tag code : Byte) (rc : ResponseCode) (d : List Byte) :
    s.respond tag code rc d = { s with
      queue := s.queue ++ [{ sequence := tag, timestamp := low16 s.time, placed := s.time,
                             body := .response code rc d }]
      attn := true } := by
  rw [State.respond_eq, started]

/-! ## Hardware reset, start-up and the tick (R184) -/

/-- REFSEL's table (R184). -/
theorem cyclesPerMillisecond_eq (refsel : BitVec 3) :
    cyclesPerMillisecond refsel = referenceCycles.getD refsel.toNat 0 := by
  revert refsel
  decide

/-- Settles O9: both rows leave the reset values but for the items they name. -/
theorem resetThenStartUpSamplesTheStraps : Obligations.ResetThenStartUpSamplesTheStraps := by
  refine ⟨fun source s => ⟨_, rfl, ?_, rfl, rfl, rfl, rfl, rfl, fun _ => rfl, ?_⟩, fun straps s notStarted => ?_⟩
  · cases source <;> rfl
  · intro i
    cases i <;> rfl
  · have run : exec (.startUp straps) s = .next (s.startUp straps) := by simp [exec, execStartUp, notStarted]
    refine ⟨_, run, ?_, rfl, rfl, rfl⟩
    rw [← cyclesPerMillisecond_eq]
    rfl

/-- Settles O10: the count wraps at 2^32, and each running timer counts down. -/
theorem tickCountsOneMillisecond : Obligations.TickCountsOneMillisecond := by
  intro s started
  have run : exec .timeBaseTick s = .next s.timeBaseTick := by simp [exec, execTimeBaseTick, started]
  exact ⟨_, run, BitVec.toNat_add s.time 1, rfl⟩

/-! ## SOFT_RESET and FULL_RESET (R185, R186) -/

theorem exec_softReset : exec .softReset s = .next (s.runHead 14 State.runSoftReset) := rfl

theorem exec_fullReset : exec .fullReset s = .next (s.runHead 15 State.runFullReset) := rfl

/-- Settles O11: SOFT_RESET waits for no frame; its RESPONSE asserts the attention line whatever came before. -/
theorem softResetKeepsTheConfiguration : Obligations.SoftResetKeepsTheConfiguration := by
  intro s r atHead
  have waitsNot := State.headWaits_of_other_code atHead (by decide) (by decide) (by decide)
  have started : s.softResetItems.started = true := atHead.1
  refine ⟨s.runSoftReset r, by rw [exec_softReset, State.runHead_of_atHead atHead waitsNot], ?_⟩
  cases capture : s.pendingCapture with
  | none =>
    simp only [State.runSoftReset, capture]
    rw [State.respond_of_started started]
    rfl
  | some c =>
    simp only [State.runSoftReset, capture]
    rw [State.respond_of_started started, State.respond_of_started (by exact started)]
    rfl

/-- Settles O12: FULL_RESET waits for no frame, and its RESPONSE is the one record of a fresh queue. -/
theorem fullResetLeavesOneResponse : Obligations.FullResetLeavesOneResponse := by
  intro s r atHead
  have waitsNot := State.headWaits_of_other_code atHead (by decide) (by decide) (by decide)
  refine ⟨s.runFullReset r, by rw [exec_fullReset, State.runHead_of_atHead atHead waitsNot], ?_, rfl⟩
  rw [State.runFullReset, State.respond_of_started rfl]
  rfl

end Sys2Proof.Machine
end

section
/-! PROOFS. The scan links: the framer, the intake checks and the good frames (R7 to R9, R17 to R26). -/

namespace Sys2Proof.Machine

variable {s : State} {i : SurfaceId} {h : ScanHeader} {payload : List Byte}

/-! ## Rewriting one surface twice, and raising a fault beside it -/

@[simp] theorem State.withSurface_self (s : State) (i : SurfaceId) : s.withSurface i (s.surface i) = s := by
  cases i <;> rfl

@[simp] theorem State.raiseFault_surface (s : State) (k : FaultKind) (src : FaultSource) (q : Byte) (d : Nat)
    (j : SurfaceId) : (s.raiseFault k src q d).surface j = s.surface j := by
  obtain ⟨f, q', a, e⟩ := s.raiseFault_frame k src q d
  rw [e]
  cases j <;> rfl

/-- A fault neither reads nor writes a surface's context (R181). -/
theorem State.withSurface_raiseFault (s : State) (i : SurfaceId) (v : Surface) (k : FaultKind) (src : FaultSource)
    (q : Byte) (d : Nat) :
    (s.withSurface i v).raiseFault k src q d = (s.raiseFault k src q d).withSurface i v := by
  have alert (u : State) (f : FaultRecord) :
      (u.withSurface i v).requestAlert f = (u.requestAlert f).withSurface i v := by
    unfold State.requestAlert
    have same : (u.withSurface i v).alertPresent = u.alertPresent := by simp [State.alertPresent]
    rw [same]
    split
    · rfl
    · cases i <;> rfl
  unfold State.raiseFault
  rw [State.withSurface_queueBlock, State.withSurface_fault]
  split
  · cases s.fault with
    | some f => cases i <;> rfl
    | none =>
      dsimp only
      rw [← alert]
      cases i <;> rfl
  · rfl

theorem State.withFramer_countLink (s : State) (i : SurfaceId) (f : Framer) (c : LinkCounters → LinkCounters) :
    (s.withFramer i f).countLink i c =
      s.withSurface i { s.surface i with framer := f, counters := c (s.surface i).counters } := by
  cases i <;> rfl

theorem State.withSurface_countLink (s : State) (i : SurfaceId) (v : Surface) (c : LinkCounters → LinkCounters) :
    (s.withSurface i v).countLink i c = s.withSurface i { v with counters := c v.counters } := by
  cases i <;> rfl

/-! ## The framer (R17) -/

theorem frameKind_iff (kind : Byte) : frameKind kind = true ↔ kind = 1 ∨ kind = 2 := by simp [frameKind]

theorem frameKind_eq_false {kind : Byte} (notFrame : ¬ (kind = 1 ∨ kind = 2)) : frameKind kind = false :=
  Bool.eq_false_iff.mpr (mt (frameKind_iff _).mp notFrame)

theorem State.scanPacket_of_not_served (framer : (s.surface i).framer = .payload h)
    (length : payload.length = h.payloadCount.toNat) (notServed : s.linkServed i = false) (crc : Byte × Byte) :
    s.scanPacket i payload crc = s.withFramer i .hunting := by
  simp [State.scanPacket, framer, length, notServed]

theorem State.checkPacket_of_stopped (stopped : (s.surface i).status = .stopped) (frame : frameKind h.kind = true)
    (crc : BitVec 16) : s.checkPacket i h payload crc = s := by
  simp [State.checkPacket, stopped, frame]

/-- Settles O13: each row by the framer's phase; a packet that is not served, or a frame of a STOPPED surface, goes no
further than the framer. -/
theorem framerFollowsItsPacket : Obligations.FramerFollowsItsPacket := by
  intro s i
  refine ⟨fun hunting => ?_, fun notHunting => ?_, fun h header small => ?_, fun h payload crc framer length discarded => ?_⟩
  · simp [exec, execStartDelimiter, State.startDelimiter, hunting, State.withFramer]
  · cases framer : (s.surface i).framer with
    | hunting => exact absurd framer notHunting
    | header => simp [exec, execStartDelimiter, State.startDelimiter, framer]
    | payload h => simp [exec, execStartDelimiter, State.startDelimiter, framer]
  · simp [exec, execHeaderComplete, State.headerComplete, header, small, State.withFramer]
  · refine congrArg Host.Outcome.next ?_
    by_cases served : s.started = true ∧ s.present i = true
    · obtain ⟨started, present⟩ := served
      obtain ⟨stopped, frame⟩ : (s.surface i).status = .stopped ∧ (h.kind = 1 ∨ h.kind = 2) := by
        simpa [started, present] using discarded
      rw [State.scanPacket_of_completes ⟨started, present, framer, length⟩,
        State.checkPacket_of_stopped (by simpa [State.withFramer] using stopped) ((frameKind_iff _).mpr frame)]
      rfl
    · have notServed : s.linkServed i = false := by simpa [State.linkServed] using served
      exact State.scanPacket_of_not_served framer length notServed crc

/-! ## Abandoned packets (R17, R26) -/

theorem State.abandonPacket_of_counted {header : Option ScanHeader} (counted : s.abandonCounted i header = true)
    (reason : LengthReason) :
    s.abandonPacket i header reason =
      (s.withSurface i { s.surface i with
          framer := .hunting
          counters := { (s.surface i).counters with
                        lengthErrors := min 65535 ((s.surface i).counters.lengthErrors + 1) } }).raiseFault
        .scanLength (linkSource i) (match header with
          | some h => h.sequence
          | none => 0) (codeIn lengthReasonOrder reason) := by
  simp only [State.abandonPacket, counted, if_true, State.lengthFault, State.withFramer_countLink]
  cases header <;> rfl

theorem State.abandonPacket_of_not_counted {header : Option ScanHeader} (notCounted : s.abandonCounted i header = false)
    (reason : LengthReason) : s.abandonPacket i header reason = s.withSurface i { s.surface i with framer := .hunting } := by
  simp [State.abandonPacket, notCounted, State.withFramer]

/-- Which abandoned packets are counted: with the header complete, and before it (R17). -/
theorem State.abandonCounted_some (s : State) (i : SurfaceId) (h : ScanHeader) :
    s.abandonCounted i (some h) = true ↔ (s.started = true ∧ s.present i = true) ∧
      ((s.surface i).status ≠ .stopped ∨ (h.kind ≠ 1 ∧ h.kind ≠ 2)) := by
  simp [State.abandonCounted, State.linkServed, frameKind]

theorem State.abandonCounted_none (s : State) (i : SurfaceId) :
    s.abandonCounted i none = true ↔ (s.started = true ∧ s.present i = true) ∧ (s.surface i).status ≠ .stopped := by
  simp [State.abandonCounted, State.linkServed]

theorem State.oversize_of_header (header : (s.surface i).framer = .header) (large : 8064 < h.payloadCount.toNat) :
    s.oversize i h = s.abandonPacket i (some h) .oversize := by
  simp [State.oversize, header, large]

/-- Settles O14: both rows abandon the packet; the packet's header decides whether that is counted. -/
theorem abandonedPacketsAreCounted : Obligations.AbandonedPacketsAreCounted := by
  intro s i hunt counted served seen
  refine ⟨fun h header large => ?_, fun header => ?_, fun h framer => ?_⟩
  · have run : exec (.oversize i h) s = .next (s.abandonPacket i (some h) .oversize) :=
      congrArg Host.Outcome.next (State.oversize_of_header header large)
    refine ⟨fun isSeen => ?_, fun notSeen => ?_⟩
    · rw [run, State.abandonPacket_of_counted ((s.abandonCounted_some i h).mpr isSeen)]
      rfl
    · rw [run, State.abandonPacket_of_not_counted
        (Bool.eq_false_iff.mpr fun counts => notSeen ((s.abandonCounted_some i h).mp counts))]
  · have run : exec (.truncated i) s = .next (s.abandonPacket i none .truncated) := by
      simp [exec, execTruncated, State.truncated, header]
    refine ⟨fun isSeen => ?_, fun notSeen => ?_⟩
    · rw [run, State.abandonPacket_of_counted ((s.abandonCounted_none i).mpr isSeen)]
      rfl
    · rw [run, State.abandonPacket_of_not_counted
        (Bool.eq_false_iff.mpr fun counts => notSeen ((s.abandonCounted_none i).mp counts))]
  · have run : exec (.truncated i) s = .next (s.abandonPacket i (some h) .truncated) := by
      simp [exec, execTruncated, State.truncated, framer]
    refine ⟨fun isSeen => ?_, fun notSeen => ?_⟩
    · rw [run, State.abandonPacket_of_counted ((s.abandonCounted_some i h).mpr isSeen)]
      rfl
    · rw [run, State.abandonPacket_of_not_counted
        (Bool.eq_false_iff.mpr fun counts => notSeen ((s.abandonCounted_some i h).mp counts))]

/-! ## The intake checks (R18 to R20) -/

/-- A packet that is examined goes on to the CRC (R18, R19). -/
theorem State.checkPacket_of_examined (examined : (s.surface i).status = .stopped → h.kind ≠ 1 ∧ h.kind ≠ 2)
    (crc : BitVec 16) :
    s.checkPacket i h payload crc =
      if crc16 (headerBytes h ++ payload) ≠ crc then
        (s.countLink i (fun c => { c with crcErrors := bump c.crcErrors 1 })).raiseFault .scanCrc (linkSource i)
          h.sequence h.kind.toNat
      else match formFailure (s.surface i).geometry i h payload.length with
        | some reason => s.lengthFault i h.sequence reason
        | none => s.goodPacket i h payload := by
  have goesOn : ((s.surface i).status == .stopped && frameKind h.kind) = false := by
    by_cases stopped : (s.surface i).status = .stopped
    · obtain ⟨notImage, notPen⟩ := examined stopped
      rw [frameKind_eq_false (not_or.mpr ⟨notImage, notPen⟩), Bool.and_false]
    · simp [stopped]
  simp only [State.checkPacket, goesOn, Bool.false_eq_true, if_false, bne_iff_ne] <;> rfl

/-- Both spell R20's table of lengths. -/
theorem samplesLength_eq (format : SampleFormat) (n : Nat) : samplesLength format n = payloadOf format n := by
  cases format <;> rfl

/-- R20's required length, as a row of the form table reads it. -/
theorem lengthRight_iff (h : ScanHeader) (g : Geometry) (n : Nat) :
    lengthRight h g n = true ↔
      if h.kind = 1 then n = payloadOf g.format (g.driveChannels * g.senseChannels)
      else if h.kind = 2 then
        n = payloadOf g.format (g.senseChannels + g.driveChannels) + (if h.flags.getLsbD 1 then 4 else 0)
      else 1 ≤ n ∧ n ≤ 64 := by
  by_cases image : h.kind = 1
  · simp [lengthRight, image, samplesLength_eq, Geometry.imageSamples]
  · by_cases pen : h.kind = 2
    · simp [lengthRight, pen, samplesLength_eq, Geometry.penSamples, headerPenWord]
    · have notImage : h.kind.toNat ≠ 1 := fun is => image (BitVec.eq_of_toNat_eq is)
      have notPen : h.kind.toNat ≠ 2 := fun is => pen (BitVec.eq_of_toNat_eq is)
      simp only [lengthRight, image, pen, if_false, Bool.and_eq_true, decide_eq_true_eq]

/-- An IMAGE or PEN packet's format byte, against GEOMETRY's format code (R20, R187). -/
theorem formatCode_eq (format : SampleFormat) : codeIn sampleFormatOrder format = if format = .s16 then 0 else 1 := by
  cases format <;> rfl

section FormTable

/-! One lemma per row of the form table, each with the rows above it passed (R20). -/

variable {g : Geometry} {n : Nat}

theorem formFailure_kind (notFrame : ¬ (h.kind = 1 ∨ h.kind = 2)) (notReply : h.kind ≠ 3) :
    formFailure g i h n = some .kind := by
  have notReply : (h.kind != 3) = true := bne_iff_ne.mpr notReply
  simp only [formFailure, frameKind_eq_false notFrame, notReply]
  rfl

theorem formFailure_penOnPad (pen : h.kind = 2) (pad : i = .pad) : formFailure g i h n = some .penOnPad := by
  simp [formFailure, frameKind, pen, pad]

theorem formFailure_count (frame : h.kind = 1 ∨ h.kind = 2) (notPenOnPad : ¬ (h.kind = 2 ∧ i = .pad))
    (counts : ¬ (h.driveCount.toNat = g.driveChannels ∧ h.senseCount.toNat = g.senseChannels)) :
    formFailure g i h n = some .count := by
  have frame : frameKind h.kind = true := (frameKind_iff _).mpr frame
  have differs : (h.driveCount.toNat != g.driveChannels || h.senseCount.toNat != g.senseChannels) = true := by
    simpa [← not_and_or] using counts
  have notPenOnPad : (h.kind == 2 && i == .pad) = false := by simpa using notPenOnPad
  simp only [formFailure, frame, notPenOnPad, differs, Bool.not_true, Bool.false_and, Bool.true_and]
  rfl

/-- A frame whose kind and counts pass comes to its format. -/
theorem formFailure_of_counts (frame : h.kind = 1 ∨ h.kind = 2) (notPenOnPad : ¬ (h.kind = 2 ∧ i = .pad))
    (drive : h.driveCount.toNat = g.driveChannels) (sense : h.senseCount.toNat = g.senseChannels) :
    formFailure g i h n =
      if h.format.toNat ≠ (if g.format = .s16 then 0 else 1) then some .format
      else if lengthRight h g n = false then some .length else none := by
  have frame : frameKind h.kind = true := (frameKind_iff _).mpr frame
  have notPenOnPad : (h.kind == 2 && i == .pad) = false := by simpa using notPenOnPad
  simp only [formFailure, frame, notPenOnPad, drive, sense, ← formatCode_eq]
  simp

end FormTable

/-- A packet fails with one LENGTH_ERRORS and SCAN_LENGTH (R20, R26). -/
theorem State.withFramer_lengthFault (s : State) (i : SurfaceId) (f : Framer) (q : Byte) (reason : LengthReason) :
    (s.withFramer i f).lengthFault i q reason =
      (s.withSurface i { s.surface i with
          framer := f
          counters := { (s.surface i).counters with
                        lengthErrors := min 65535 ((s.surface i).counters.lengthErrors + 1) } }).raiseFault
        .scanLength (linkSource i) q (codeIn lengthReasonOrder reason) := by
  rw [State.lengthFault, State.withFramer_countLink]
  rfl

/-- Settles O15: the CRC first, then one row of the form table after another. -/
theorem failedPacketsAreCounted : Obligations.FailedPacketsAreCounted := by
  intro s i h payload crc examined v frame counts required failed
  obtain ⟨complete, examined⟩ := examined
  have geometry : ((s.withFramer i .hunting).surface i).geometry = v.geometry := by simp [State.withFramer, v]
  have run : exec (.scanPacket i payload crc) s =
      .next ((s.withFramer i .hunting).checkPacket i h payload (receivedCrc crc)) :=
    congrArg Host.Outcome.next (State.scanPacket_of_completes complete crc)
  have check := State.checkPacket_of_examined (s := s.withFramer i .hunting) (i := i) (h := h) (payload := payload)
    (by simpa [State.withFramer] using examined) (receivedCrc crc)
  refine ⟨fun crcWrong => ?_, fun crcRight => ?_⟩
  · rw [run, check, if_pos crcWrong, State.withFramer_countLink]
    rfl
  rw [if_neg (not_not.mpr crcRight), geometry] at check
  have fails {reason : LengthReason} {code : Nat} (is : codeIn lengthReasonOrder reason = code)
      (row : formFailure v.geometry i h payload.length = some reason) : failed code := by
    subst is
    simp only [failed]
    rw [run, check, row]
    exact congrArg Host.Outcome.next (s.withFramer_lengthFault i .hunting h.sequence reason)
  refine ⟨fun notFrame notReply => fails rfl (formFailure_kind notFrame notReply),
    fun pen pad => fails rfl (formFailure_penOnPad pen pad),
    fun isFrame notPenOnPad differ => fails rfl (formFailure_count isFrame notPenOnPad differ), ?format, ?length⟩
  case format =>
    intro isFrame notPenOnPad ⟨drive, sense⟩ differs
    exact fails rfl (by rw [formFailure_of_counts isFrame notPenOnPad drive sense, if_pos differs])
  case length =>
    intro passes wrong
    have wrong : lengthRight h v.geometry payload.length = false :=
      Bool.eq_false_iff.mpr (mt (lengthRight_iff _ _ _).mp wrong)
    obtain reply | ⟨isFrame, notPenOnPad, drive, sense, format⟩ := passes
    · rw [lengthRight_reply reply, decide_eq_false_iff_not] at wrong
      exact fails rfl (by rw [formFailure_reply reply, if_neg wrong])
    · have format : h.format.toNat = if v.geometry.format = .s16 then 0 else 1 := by
        rw [format]
        cases v.geometry.format <;> rfl
      exact fails rfl (by rw [formFailure_of_counts isFrame notPenOnPad drive sense, if_neg (not_not.mpr format),
        if_pos wrong])

/-! ## Good frames (R7, R9, R22 to R25) -/

/-- Frames missed, modulo 256 (R22). -/
theorem framesMissed_eq (expected : Option Byte) (q : Byte) : framesMissed expected q = missedBefore expected q := by
  cases expected with
  | none => rfl
  | some e =>
    simp only [framesMissed, missedBefore, BitVec.toNat_sub]
    omega

theorem State.gapRaised_withSurface (s : State) (i : SurfaceId) (v : Surface) (q : Byte) (missed : Nat) :
    (s.withSurface i v).gapRaised i q missed = (s.gapRaised i q missed).withSurface i v := by
  unfold State.gapRaised
  split
  · rfl
  · exact s.withSurface_raiseFault i v _ _ _ _

/-- The sequence check of an IMAGE packet (R22). -/
theorem State.sequenceCheck_image (s : State) (i : SurfaceId) (v : Surface) (q : Byte) (missed : Nat) :
    (s.withSurface i v).sequenceCheck i false q missed =
      (s.gapRaised i q missed).withSurface i { v with
        expectedImage := some (q + 1)
        counters := { v.counters with seqGaps := min 65535 (v.counters.seqGaps + missed) } } := by
  rw [← State.gapRaised_withSurface]
  simp only [State.sequenceCheck, State.withSurface_surface, State.withSurface_withSurface, State.withSurface_countLink,
    State.gapRaised, beq_iff_eq]
  rfl

/-- The sequence check of a PEN packet (R22). -/
theorem State.sequenceCheck_pen (s : State) (i : SurfaceId) (v : Surface) (q : Byte) (missed : Nat) :
    (s.withSurface i v).sequenceCheck i true q missed =
      (s.gapRaised i q missed).withSurface i { v with
        expectedPen := some (q + 1)
        counters := { v.counters with seqGaps := min 65535 (v.counters.seqGaps + missed) } } := by
  rw [← State.gapRaised_withSurface]
  simp only [State.sequenceCheck, State.withSurface_surface, State.withSurface_withSurface, State.withSurface_countLink,
    State.gapRaised, beq_iff_eq]
  rfl

/-- A good IMAGE frame in an empty slot (R24, R25). -/
theorem State.imageArrives_of_empty (u : State) (i : SurfaceId) {v w : Surface} (f : ImageFrame)
    (arrived : v.returned.goodFrame f.sequence = w) (empty : w.imageSlot = none) :
    (u.withSurface i v).imageArrives i f = (u.withSurface i { w with imageSlot := some f }).takeImage i := by
  simp only [State.imageArrives, State.withSurface_surface, arrived, empty, State.withSurface_withSurface]

/-- A good IMAGE frame that finds one waiting takes its place (R24). -/
theorem State.imageArrives_of_waiting (u : State) (i : SurfaceId) {v w : Surface} (f : ImageFrame)
    (arrived : v.returned.goodFrame f.sequence = w) {old : ImageFrame} (waiting : w.imageSlot = some old) :
    (u.withSurface i v).imageArrives i f =
      (u.withSurface i { w with
          imageSlot := some { f with elapsed := min 65535 (old.elapsed + f.elapsed) }
          counters := { w.counters with overruns := min 65535 (w.counters.overruns + 1) } }).raiseFault
        .scanOverrun (linkSource i) f.sequence old.sequence.toNat := by
  simp only [State.imageArrives, State.withSurface_surface, arrived, waiting, State.withSurface_withSurface, State.overrun,
    State.withSurface_countLink]
  rfl

theorem State.penArrives_of_stalled (u : State) (i : SurfaceId) {v : Surface} (f : PenFrame)
    (stalled : v.status = .stalled) :
    (u.withSurface i v).penArrives i f = u.withSurface i (v.goodFrame f.sequence) := by
  have still : (v.goodFrame f.sequence).status = .stalled := stalled
  simp [State.penArrives, still]

theorem State.penArrives_of_empty (u : State) (i : SurfaceId) {v w : Surface} (f : PenFrame)
    (arrived : v.goodFrame f.sequence = w) (notStalled : w.status ≠ .stalled) (empty : w.penSlot = none) :
    (u.withSurface i v).penArrives i f = (u.withSurface i { w with penSlot := some f }).takePen i := by
  simp [State.penArrives, arrived, notStalled, empty]

theorem State.penArrives_of_waiting (u : State) (i : SurfaceId) {v w : Surface} (f : PenFrame)
    (arrived : v.goodFrame f.sequence = w) (notStalled : w.status ≠ .stalled) {old : PenFrame}
    (waiting : w.penSlot = some old) :
    (u.withSurface i v).penArrives i f =
      (u.withSurface i { w with
          penSlot := some { f with elapsed := min 65535 (old.elapsed + f.elapsed) }
          counters := { w.counters with overruns := min 65535 (w.counters.overruns + 1) } }).raiseFault
        .scanOverrun (linkSource i) f.sequence old.sequence.toNat := by
  simp only [State.penArrives, State.withSurface_surface, arrived, waiting, State.withSurface_withSurface, State.overrun,
    State.withSurface_countLink, beq_iff_eq, notStalled, if_false]
  rfl

/-- A frame that passes every check comes to its sequence check (R20, R22). -/
theorem State.scanPacket_good (complete : s.Completes i h payload) (running : (s.surface i).status ≠ .stopped)
    (frame : h.kind = 1 ∨ h.kind = 2) (notPenOnPad : ¬ (h.kind = 2 ∧ i = .pad)) {crc : Byte × Byte}
    (crcRight : crc16 (headerBytes h ++ payload) = receivedCrc crc) (agrees : Agrees h (s.surface i).geometry)
    (length : lengthRight h (s.surface i).geometry payload.length = true) :
    s.scanPacket i payload crc = (s.withFramer i .hunting).goodPacket i h payload := by
  obtain ⟨drive, sense, format⟩ := agrees
  have format : h.format.toNat = if (s.surface i).geometry.format = .s16 then 0 else 1 := by
    rw [format]
    cases (s.surface i).geometry.format <;> rfl
  have passes : formFailure ((s.withFramer i .hunting).surface i).geometry i h payload.length = none := by
    have : ((s.withFramer i .hunting).surface i).geometry = (s.surface i).geometry := by simp [State.withFramer]
    rw [this, formFailure_of_counts frame notPenOnPad drive sense]
    simp [format, length]
  rw [State.scanPacket_of_completes complete,
    State.checkPacket_of_examined (by simpa [State.withFramer] using fun stopped => absurd stopped running),
    if_neg (not_not.mpr crcRight), passes]

/-- Settles O17: the sequence check, then the slot; a fault raised on the way reads and writes no surface. -/
theorem goodImageReachesItsSlot : Obligations.GoodImageReachesItsSlot := by
  intro s i h payload crc good v missed f base w
  obtain ⟨complete, running, image, crcRight, agrees, length⟩ := good
  have run : s.scanPacket i payload crc =
      ((s.gapRaised i h.sequence missed).withSurface i { v with
          framer := .hunting, expectedImage := some (h.sequence + 1)
          counters := { v.counters with seqGaps := min 65535 (v.counters.seqGaps + missed) } }).imageArrives i f := by
    rw [State.scanPacket_good complete running (.inl image) (by simp [image]) crcRight agrees
      ((lengthRight_iff _ _ _).mpr (by simpa [image] using length))]
    simp only [State.goodPacket, image, State.withFramer, State.withSurface_surface, framesMissed_eq,
      State.sequenceCheck_image]
    rw [State.withSurface_time]
    rfl
  have arrived : ({ v with
      framer := .hunting, expectedImage := some (h.sequence + 1)
      counters := { v.counters with seqGaps := min 65535 (v.counters.seqGaps + missed) } } : Surface).returned.goodFrame
        f.sequence = w := by
    have running : v.status ≠ .stopped := running
    simp only [w, base]
    cases status : v.status <;> simp_all [Surface.returned, Surface.goodFrame, Surface.acquiring, f]
  have slot : w.imageSlot = v.imageSlot := by
    simp only [w, base]
    split <;> rfl
  refine ⟨fun empty => congrArg Host.Outcome.next ?_, fun old waiting => congrArg Host.Outcome.next ?_⟩
  · rw [run, State.imageArrives_of_empty _ _ f arrived (slot.trans empty)]
  · rw [run, State.imageArrives_of_waiting _ _ f arrived (slot.trans waiting)]

/-- Settles O18: as O17, but a STALLED surface stays so and its slot is left. -/
theorem goodPenFrameReachesItsSlot : Obligations.GoodPenFrameReachesItsSlot := by
  intro s h payload crc good v missed n field f w
  obtain ⟨complete, running, pen, crcRight, agrees, length⟩ := good
  have word : penWordOf v.geometry payload = BitVec.ofNat 26 (byteAt field 0 + 256 * byteAt field 1
      + 65536 * byteAt field 2 + 16777216 * byteAt field 3) := by
    have same : word16At field 0 + 65536 * word16At field 2 = byteAt field 0 + 256 * byteAt field 1
        + 65536 * byteAt field 2 + 16777216 * byteAt field 3 := by
      simp only [word16At, word16, byteAt, Nat.zero_add, Nat.reduceAdd]
      omega
    rw [← same, penWordOf, samplesLength_eq]
    rfl
  have run : s.scanPacket .panel payload crc =
      ((s.gapRaised .panel h.sequence missed).withSurface .panel { v with
          framer := .hunting, expectedPen := some (h.sequence + 1)
          counters := { v.counters with seqGaps := min 65535 (v.counters.seqGaps + missed) } }).penArrives .panel f := by
    rw [State.scanPacket_good complete running (.inr pen) (by simp) crcRight agrees
      ((lengthRight_iff _ _ _).mpr (by simpa [pen] using length))]
    simp only [State.goodPacket, pen, State.withFramer, State.withSurface_surface, framesMissed_eq,
      State.sequenceCheck_pen]
    simp only [f, ← word]
    rw [State.withSurface_time]
    rfl
  have arrived : ({ v with
      framer := .hunting, expectedPen := some (h.sequence + 1)
      counters := { v.counters with seqGaps := min 65535 (v.counters.seqGaps + missed) } } : Surface).goodFrame
        f.sequence = w := by
    have running : v.status ≠ .stopped := running
    simp only [w]
    cases status : v.status <;> simp_all [Surface.goodFrame, f]
  refine ⟨fun stalled => ?_, fun notStalled empty => ?_, fun old notStalled waiting => ?_⟩
  · refine congrArg Host.Outcome.next ?_
    rw [run, State.penArrives_of_stalled _ _ f (by exact stalled), arrived]
  · refine congrArg Host.Outcome.next ?_
    rw [run, State.penArrives_of_empty _ _ f arrived notStalled empty]
  · refine congrArg Host.Outcome.next ?_
    rw [run, State.penArrives_of_waiting _ _ f arrived notStalled waiting]
    rfl

/-! ## The frame timeout (R8) -/

/-- Settles O20: a timer at 0 counts, raises and ends the surface, in that order. -/
theorem frameTimeoutStallsTheSurface : Obligations.FrameTimeoutStallsTheSurface := by
  intro s i started
  refine ⟨fun due => ?_, fun notDue => ?_⟩
  · have counted : s.countLink i (fun c => { c with timeouts := bump c.timeouts 1 }) =
        s.withSurface i { s.surface i with
          counters := { (s.surface i).counters with
                        timeouts := min 65535 ((s.surface i).counters.timeouts + 1) } } := rfl
    simp only [exec, execFrameTimeout, started, if_true, State.frameTimeout, due, beq_self_eq_true, counted]
  · simp [exec, execFrameTimeout, State.frameTimeout, notDue]

end Sys2Proof.Machine
end

section
/-! PROOFS. Two-byte fields and packed samples read back (R21, R187, R188). -/

namespace Sys2Proof.Machine

/-! ## Two-byte fields (R187) -/

@[simp] theorem le16_length (v : Int) : (le16 v).length = 2 := rfl

/-- A two-byte field is the low 16 bits of its value. -/
theorem word16_le16 (v : Int) : word16 ((BitVec.ofInt 16 v).extractLsb' 0 8) ((BitVec.ofInt 16 v).extractLsb' 8 8) =
    (BitVec.ofInt 16 v).toNat := by
  have small := (BitVec.ofInt 16 v).isLt
  simp only [word16, BitVec.extractLsb'_toNat]
  omega

/-- A number below 65536 reads back from its field. -/
theorem word16_le16_nat {n : Nat} (small : n < 65536) :
    word16 ((BitVec.ofInt 16 n).extractLsb' 0 8) ((BitVec.ofInt 16 n).extractLsb' 8 8) = n := by
  rw [word16_le16, BitVec.ofInt_natCast, BitVec.toNat_ofNat]
  omega

/-! ## S16 (R188) -/

theorem samplesS16_le16 {x : Int} (lo : -32768 ≤ x) (hi : x ≤ 32767) (rest : List Byte) :
    samplesS16 (le16 x ++ rest) = x :: samplesS16 rest := by
  have value : (BitVec.ofNat 16 (word16 ((BitVec.ofInt 16 x).extractLsb' 0 8)
      ((BitVec.ofInt 16 x).extractLsb' 8 8))).toInt = x := by
    rw [word16_le16, BitVec.ofNat_toNat, BitVec.setWidth_eq, BitVec.toInt_ofInt]
    exact Int.bmod_eq_of_le (by omega) (by omega)
  rw [le16, List.cons_append, List.cons_append, samplesS16, value, List.nil_append]

theorem packS16_length (xs : List Int) : (packS16 xs).length = 2 * xs.length := by
  induction xs with
  | nil => rfl
  | cons x xs ih =>
    rw [packS16, List.flatMap_cons, List.length_append, ← packS16, ih, le16_length, List.length_cons]
    omega

theorem samplesS16_packS16 {xs : List Int} (inRange : ∀ x ∈ xs, -32768 ≤ x ∧ x ≤ 32767) :
    samplesS16 (packS16 xs) = xs := by
  induction xs with
  | nil => rfl
  | cons x xs ih =>
    obtain ⟨⟨lo, hi⟩, rest⟩ := List.forall_mem_cons.mp inRange
    rw [packS16, List.flatMap_cons, samplesS16_le16 lo hi, ← packS16, ih rest]

/-! ## U12P (R188) -/

/-- Three bytes give back the first of their two samples, and the second when it has 12 bits. -/
theorem samplesU12P_packPair {a : Nat} (small : a < 4096) (b : Nat) (rest : List Byte) :
    ∃ y : Nat, samplesU12P (packPair a b ++ rest) = (a : Int) :: (y : Int) :: samplesU12P rest ∧
      (b < 4096 → y = b) := by
  have first : (BitVec.ofNat 8 a).toNat + 256 * ((BitVec.ofNat 8 (a / 256 + 16 * (b % 16))).toNat % 16) = a := by
    simp only [BitVec.toNat_ofNat]
    omega
  refine ⟨(BitVec.ofNat 8 (a / 256 + 16 * (b % 16))).toNat / 16 + 16 * (BitVec.ofNat 8 (b / 16)).toNat, ?_, ?_⟩
  · rw [packPair, List.cons_append, List.cons_append, List.cons_append, List.nil_append, samplesU12P, first]
  · intro second
    simp only [BitVec.toNat_ofNat]
    omega

theorem packU12P_length (pad : Nat) (xs : List Nat) : (packU12P pad xs).length = 3 * ((xs.length + 1) / 2) := by
  induction xs using packU12P.induct with
  | case1 a b rest ih =>
    rw [packU12P, List.length_append, ih, packPair, List.length_cons, List.length_cons]
    simp only [List.length_cons, List.length_nil]
    omega
  | case2 a => simp [packU12P, packPair]
  | case3 => rfl

theorem samplesU12P_packU12P (pad : Nat) {xs : List Nat} (inRange : ∀ x ∈ xs, x < 4096) :
    (samplesU12P (packU12P pad xs)).take xs.length = xs.map (fun x : Nat => (x : Int)) := by
  induction xs using packU12P.induct with
  | case1 a b rest ih =>
    obtain ⟨aSmall, bSmall, restSmall⟩ : a < 4096 ∧ b < 4096 ∧ ∀ x ∈ rest, x < 4096 := by simpa using inRange
    obtain ⟨y, both, second⟩ := samplesU12P_packPair aSmall b (packU12P pad rest)
    rw [packU12P, both, second bSmall, List.length_cons, List.length_cons, List.take_succ_cons, List.take_succ_cons,
      ih restSmall, List.map_cons, List.map_cons]
  | case2 a =>
    obtain ⟨y, both, -⟩ := samplesU12P_packPair (inRange a (by simp)) pad []
    rw [packU12P, ← List.append_nil (packPair a pad), both]
    rfl
  | case3 => rfl

/-- A list of numbers, cast one by one. -/
theorem map_cast_eq_bind (xs : List Nat) :
    xs.map (fun x : Nat => (x : Int)) = List.map (fun x => x) (do let a ← xs; pure (a : Int)) := by
  simp only [List.bind_eq_flatMap, List.pure_def, List.map_eq_flatMap, List.flatMap_assoc, List.flatMap_cons,
    List.flatMap_nil, List.append_nil]

/-- Settles O19: the run of a payload is what packing laid down, and each piece of it reads back. -/
theorem unpackingReadsEverySample : Obligations.UnpackingReadsEverySample := by
  refine ⟨fun xs more inRange => ?_, fun pad xs more inRange => ?_⟩
  · have run : (packS16 xs ++ more).take (samplesLength .s16 xs.length) = packS16 xs :=
      List.take_left' (packS16_length xs)
    simp only [unpackSamples, run, samplesS16_packS16 inRange, List.take_length]
  · have run : (packU12P pad xs ++ more).take (samplesLength .u12p xs.length) = packU12P pad xs :=
      List.take_left' (packU12P_length pad xs)
    simp only [unpackSamples, run, samplesU12P_packU12P pad inRange]
    exact map_cast_eq_bind xs

end Sys2Proof.Machine
end

section
/-! PROOFS. Blocks and table entries read back from their bytes (R190). -/

namespace Sys2Proof.Machine

/-! ## Fields (R187) -/

theorem byteOf_toNat {n : Nat} (small : n < 256) : (byteOf n).toNat = n := by
  rw [byteOf, BitVec.toNat_ofNat]
  omega

/-- An enumeration's value reads back from its code. -/
theorem valueIn_enumByte {α : Type} [DecidableEq α] {order : List α} {a : α} (mem : a ∈ order)
    (short : order.length ≤ 256) : valueIn order (enumByte order a).toNat = some a := by
  have inside : order.idxOf a < order.length := List.idxOf_lt_length_iff.mpr mem
  rw [enumByte, codeIn, byteOf_toNat (by omega), valueIn, List.getElem?_eq_getElem inside, List.getElem_idxOf]

theorem usedByte_flagByte (b : Bool) : usedByte (flagByte [b]).toNat = some b := by cases b <;> rfl

theorem flagByte_getLsbD_three (a b c : Bool) :
    (flagByte [a, b, c]).getLsbD 0 = a ∧ (flagByte [a, b, c]).getLsbD 1 = b ∧ (flagByte [a, b, c]).getLsbD 2 = c := by
  revert a b c
  decide

theorem flagByte_getLsbD_one (a : Bool) : (flagByte [a]).getLsbD 0 = a := by cases a <;> rfl

theorem mask_readback (mask : BitVec 5) : (mask.setWidth 8).extractLsb' 0 5 = mask := by
  revert mask
  decide

theorem mem_polarityOrder (a : Polarity) : a ∈ polarityOrder := by cases a <;> decide
theorem mem_sampleFormatOrder (a : SampleFormat) : a ∈ sampleFormatOrder := by cases a <;> decide
theorem mem_reportModeOrder (a : ReportMode) : a ∈ reportModeOrder := by cases a <;> decide
theorem mem_penModeOrder (a : PenMode) : a ∈ penModeOrder := by cases a <;> decide
theorem mem_handednessOrder (a : Handedness) : a ∈ handednessOrder := by cases a <;> decide
theorem mem_edgeOrder (a : EdgeCondition) : a ∈ edgeOrder := by cases a <;> decide
theorem mem_touchOrder (a : TouchClass) : a ∈ touchOrder := by cases a <;> decide
theorem mem_zonePolicyOrder (a : ZonePolicy) : a ∈ zonePolicyOrder := by cases a <;> decide
theorem mem_gestureKindOrder (a : GestureKind) : a ∈ gestureKindOrder := by cases a <;> decide
theorem mem_directionOrder (a : Direction) : a ∈ directionOrder := by cases a <;> decide

theorem clampNat_of_within {lo hi v : Nat} (low : lo ≤ v) (high : v ≤ hi) : clampNat lo hi v = v := by
  unfold clampNat
  omega

/-! ## Blocks -/

theorem Geometry.ofBytes_bytes (g : Geometry) (drive : within 1 72 g.driveChannels = true)
    (sense : within 1 56 g.senseChannels = true) (driveLines : within 4 64 g.driveLines = true)
    (senseLines : within 4 48 g.senseLines = true) : Geometry.ofBytes g.bytes = some g := by
  have bound {lo hi v : Nat} (inRange : within lo hi v = true) (small : hi < 256) : v < 256 := by
    simp only [within, Bool.and_eq_true, decide_eq_true_eq] at inRange
    omega
  simp only [Geometry.ofBytes, Geometry.bytes, byteAt, List.getD_cons_zero, List.getD_cons_succ,
    valueIn_enumByte (mem_polarityOrder _) (by decide), valueIn_enumByte (mem_sampleFormatOrder _) (by decide),
    byteOf_toNat (bound drive (by decide)), byteOf_toNat (bound sense (by decide)),
    byteOf_toNat (bound driveLines (by decide)), byteOf_toNat (bound senseLines (by decide)), drive, sense, driveLines,
    senseLines, Option.bind_eq_bind, Option.bind_some, Bool.and_self, if_true]

theorem Detection.ofBytes_bytes (d : Detection) (inRange : d.InRange) : Detection.ofBytes d.bytes = d := by
  obtain ⟨touch, noise, acquire, interval, step, negative, anomaly, limit, confirm, coast, gate, timeout⟩ := inRange
  simp only [Detection.ofBytes, Detection.bytes, le16, List.cons_append, List.nil_append, word16At, byteAt,
    List.getD_cons_zero, List.getD_cons_succ, Nat.zero_add,
    word16_le16_nat (show d.touchThreshold < 65536 by omega), word16_le16_nat (show d.noiseFloor < 65536 by omega),
    word16_le16_nat (show d.negativeThreshold < 65536 by omega), word16_le16_nat (show d.trackGate < 65536 by omega),
    word16_le16_nat (show d.frameTimeout < 65536 by omega), byteOf_toNat (show d.acquireFrames < 256 by omega),
    byteOf_toNat (show d.driftInterval < 256 by omega), byteOf_toNat (show d.driftStep < 256 by omega),
    byteOf_toNat (show d.anomalyFrames < 256 by omega), byteOf_toNat (show d.contactLimit < 256 by omega),
    byteOf_toNat (show d.confirmFrames < 256 by omega), byteOf_toNat (show d.coastFrames < 256 by omega)]

/-- A DETECTION in its ranges is clamped to itself (R177). -/
theorem Detection.clamped_of_inRange (d : Detection) (inRange : d.InRange) : d.clamped = d := by
  obtain ⟨touch, noise, acquire, interval, step, negative, anomaly, limit, confirm, coast, gate, timeout⟩ := inRange
  simp only [Detection.clamped, clampNat_of_within touch.1 touch.2, clampNat_of_within (Nat.zero_le _) noise,
    clampNat_of_within acquire.1 acquire.2, clampNat_of_within interval.1 interval.2,
    clampNat_of_within step.1 step.2, clampNat_of_within negative.1 negative.2,
    clampNat_of_within anomaly.1 anomaly.2, clampNat_of_within limit.1 limit.2,
    clampNat_of_within confirm.1 confirm.2, clampNat_of_within (Nat.zero_le _) coast,
    clampNat_of_within gate.1 gate.2, clampNat_of_within timeout.1 timeout.2]

theorem Reporting.ofBytes_bytes (i : SurfaceId) (b : Reporting) (lx : b.lx < 65536) (ly : b.ly < 65536)
    (settle : b.settleFrames < 256) (allowed : modeAllowed i b.mode = true) : Reporting.ofBytes i b.bytes = some b := by
  obtain ⟨swap, invertX, invertY⟩ := flagByte_getLsbD_three b.swap b.invertX b.invertY
  simp only [Reporting.ofBytes, Reporting.bytes, le16, List.cons_append, List.nil_append, word16At, byteAt,
    List.getD_cons_zero, List.getD_cons_succ, Nat.zero_add, valueIn_enumByte (mem_reportModeOrder _) (by decide),
    word16_le16_nat lx, word16_le16_nat ly, byteOf_toNat settle, swap, invertX, invertY, mask_readback,
    Option.bind_eq_bind, Option.bind_some, allowed, if_true]

theorem modeAllowed_of_contacts {i : SurfaceId} {m : ReportMode} (panel : i = .panel → m = .contacts) :
    modeAllowed i m = true := by
  cases i with
  | pad => rfl
  | panel => rw [panel rfl]; rfl

theorem PadRejection.ofBytes_bytes (b : PadRejection) (guard : b.guardTime < 65536)
    (travel : b.hesitantTravel < 65536) (frames : b.hesitantFrames < 256) : PadRejection.ofBytes b.bytes = b := by
  simp only [PadRejection.ofBytes, PadRejection.bytes, le16, List.cons_append, List.nil_append, word16At, byteAt,
    List.getD_cons_zero, List.getD_cons_succ, Nat.zero_add, word16_le16_nat guard, word16_le16_nat travel,
    byteOf_toNat frames]

theorem PanelRejection.ofBytes_bytes (b : PanelRejection) (ahead : b.ahead < 65536) (back : b.back < 65536)
    (above : b.above < 65536) (below : b.below < 65536) (linger : b.linger < 65536) (radius : b.shadowRadius < 256) :
    PanelRejection.ofBytes b.bytes = some b := by
  simp only [PanelRejection.ofBytes, PanelRejection.bytes, le16, List.cons_append, List.nil_append, word16At, byteAt,
    List.getD_cons_zero, List.getD_cons_succ, word16_le16_nat ahead, word16_le16_nat back,
    word16_le16_nat above, word16_le16_nat below, word16_le16_nat linger, byteOf_toNat radius,
    valueIn_enumByte (mem_penModeOrder _) (by decide), valueIn_enumByte (mem_handednessOrder _) (by decide),
    Option.bind_eq_bind, Option.bind_some]

theorem PenBlock.ofBytes_bytes (b : PenBlock) (hover : b.hoverThreshold < 65536) (hold : b.penHold < 256) :
    PenBlock.ofBytes b.bytes = b := by
  simp only [PenBlock.ofBytes, PenBlock.bytes, le16, List.cons_append, List.nil_append, word16At, byteAt,
    List.getD_cons_zero, List.getD_cons_succ, Nat.zero_add, word16_le16_nat hover, byteOf_toNat hold]

theorem QueueBlock.ofBytes_bytes (b : QueueBlock) (attention : b.attentionThreshold < 256)
    (almostFull : b.almostFull < 256) (delay : b.maxDelay < 256) : QueueBlock.ofBytes b.bytes = b := by
  have mask := word16_le16_nat (show b.captureMask.toNat < 65536 by have := b.captureMask.isLt; omega)
  simp only [QueueBlock.ofBytes, QueueBlock.bytes, le16, List.cons_append, List.nil_append, word16At, byteAt,
    List.getD_cons_zero, List.getD_cons_succ, byteOf_toNat attention, byteOf_toNat almostFull,
    byteOf_toNat delay, mask, BitVec.ofNat_toNat, BitVec.setWidth_eq]

/-! ## Table entries -/

theorem LineEntry.ofBytes_bytes (e : LineEntry) (valid : e.Valid) : LineEntry.ofBytes e.bytes = e := by
  obtain ⟨line, dead⟩ := e
  simp only [LineEntry.ofBytes, LineEntry.bytes, byteAt, List.getD_cons_zero, List.getD_cons_succ,
    flagByte_getLsbD_one]
  cases line with
  | none => rfl
  | some l =>
    have small : (some l).all (· ≤ 254) = true := valid
    have small : l ≤ 254 := by simpa using small
    simp only [Option.getD_some, byteOf_toNat (show l < 256 by omega)]
    simp
    omega

theorem ClassEntry.ofBytes_bytes (e : ClassEntry) (valid : e.Valid) : ClassEntry.ofBytes e.bytes = some e := by
  obtain ⟨area, peak, width, height, density, areaMax, peakMax, widthMax, heightMax, densityMax, known⟩ := valid
  simp only [ClassEntry.ofBytes, ClassEntry.bytes, le16, List.cons_append, List.nil_append, word16At, byteAt,
    List.getD_cons_zero, List.getD_cons_succ, usedByte_flagByte,
    valueIn_enumByte (mem_edgeOrder _) (by decide), valueIn_enumByte (mem_touchOrder _) (by decide),
    word16_le16_nat areaMax, word16_le16_nat peakMax, word16_le16_nat widthMax, word16_le16_nat heightMax,
    word16_le16_nat densityMax, word16_le16_nat (show e.areaMin < 65536 by omega),
    word16_le16_nat (show e.peakMin < 65536 by omega), word16_le16_nat (show e.widthMin < 65536 by omega),
    word16_le16_nat (show e.heightMin < 65536 by omega), word16_le16_nat (show e.densityMin < 65536 by omega),
    Option.bind_eq_bind, Option.bind_some]
  exact if_pos ⟨area, peak, width, height, density, known⟩

theorem ZoneEntry.ofBytes_bytes (e : ZoneEntry) (valid : e.Valid) : ZoneEntry.ofBytes e.bytes = some e := by
  obtain ⟨xs, ys, x1, y1⟩ := valid
  simp only [ZoneEntry.ofBytes, ZoneEntry.bytes, le16, List.cons_append, List.nil_append, List.map_cons, List.map_nil,
    word16At, byteAt, List.getD_cons_zero, List.getD_cons_succ, usedByte_flagByte,
    valueIn_enumByte (mem_zonePolicyOrder _) (by decide), word16_le16_nat x1, word16_le16_nat y1,
    word16_le16_nat (show e.x0 < 65536 by omega), word16_le16_nat (show e.y0 < 65536 by omega), Option.bind_eq_bind,
    Option.bind_some]
  exact if_pos ⟨xs, ys⟩

theorem GestureEntry.ofBytes_bytes (e : GestureEntry) (valid : e.Valid) : GestureEntry.ofBytes e.bytes = some e := by
  obtain ⟨fingers, code, threshold, limit, time, direction⟩ := valid
  have fingersIn : within 1 5 e.fingers = true := by simpa [within] using fingers
  have codeIn : within 1 250 e.code = true := by simpa [within] using code
  simp only [GestureEntry.ofBytes, GestureEntry.bytes, le16, List.cons_append, List.nil_append, word16At, byteAt,
    List.getD_cons_zero, List.getD_cons_succ, usedByte_flagByte,
    valueIn_enumByte (mem_gestureKindOrder _) (by decide), valueIn_enumByte (mem_directionOrder _) (by decide),
    byteOf_toNat (show e.fingers < 256 by omega), byteOf_toNat (show e.code < 256 by omega),
    word16_le16_nat threshold, word16_le16_nat limit, word16_le16_nat time, Option.bind_eq_bind, Option.bind_some,
    fingersIn, codeIn, direction, Bool.and_self, if_true]

/-- Settles O54: block by block and entry by entry, every field in range reads back. -/
theorem layoutsReadBackWhatTheyHold : Obligations.LayoutsReadBackWhatTheyHold := by
  refine ⟨fun g d1 d2 s1 s2 l1 l2 n1 n2 => ⟨g.ofBytes_bytes ?_ ?_ ?_ ?_, rfl⟩, fun d inRange => ⟨?_, rfl⟩,
    fun i b lx ly settle panel => ⟨b.ofBytes_bytes i lx ly settle (modeAllowed_of_contacts panel), rfl⟩,
    fun b guard travel frames => ⟨b.ofBytes_bytes guard travel frames, rfl⟩,
    fun b ahead back above below linger radius => ⟨b.ofBytes_bytes ahead back above below linger radius, rfl⟩,
    fun b hover hold => ⟨b.ofBytes_bytes hover hold, rfl⟩,
    fun b attention full delay => ⟨b.ofBytes_bytes attention full delay, rfl⟩,
    fun e valid => ⟨e.ofBytes_bytes valid, rfl⟩, fun e valid => ⟨e.ofBytes_bytes valid, rfl⟩,
    fun e valid => ⟨e.ofBytes_bytes valid, rfl⟩, fun e valid => ⟨e.ofBytes_bytes valid, rfl⟩,
    fun n small => ⟨word16_le16_nat small, rfl⟩⟩
  · simp [within, d1, d2]
  · simp [within, s1, s2]
  · simp [within, l1, l2]
  · simp [within, n1, n2]
  · rw [d.ofBytes_bytes inRange, d.clamped_of_inRange inRange]

end Sys2Proof.Machine
end

section
/-! PROOFS. The request at the head: the frames it claims, its answer, and the checks of R175 (R10, R25, R166, R175,
R176). -/

namespace Sys2Proof.Machine

variable {s : State} {r : Request} {code : Nat}

/-! ## What a request claims and waits for (R10, R176) -/

theorem requestCheck_contentCheck {panel : Bool} (passes : requestCheck panel r = none) : r.contentCheck = none := by
  unfold requestCheck at passes
  split at passes
  · cases passes
  · split at passes
    · cases passes
    · split at passes
      · exact passes
      · split at passes
        · cases passes
        · split at passes
          · cases passes
          · exact passes

/-- A LOAD_TABLE that passes its checks names a known table (R178). -/
theorem Request.table_ne_none {panel : Bool} (passes : requestCheck panel r = none) (load : r.code.toNat = 5) :
    r.table ≠ none := by
  intro unknown
  have content := requestCheck_contentCheck passes
  simp [Request.contentCheck, load, unknown] at content

/-- The deferrable blocks are REPORTING, REJECTION and PEN, and every table but LINE_MAP (R176). -/
theorem Request.deferrable_iff : r.deferrable = true ↔
    (r.code.toNat = 7 ∧ (r.block = some .reporting ∨ r.block = some .rejection ∨ r.block = some .pen)) ∨
      (r.code.toNat = 5 ∧ r.table ≠ none ∧ r.table ≠ some .lineMap) := by
  have codeIs (n : Byte) : r.code = n ↔ r.code.toNat = n.toNat := BitVec.toNat_inj.symm
  simp [Request.deferrable, codeIs, or_assoc, and_assoc]

/-- The claim of the request at the head: a REBASE the IMAGE frame, a deferrable write both kinds (R10, R176). -/
theorem State.headClaim_eq (head : s.buffer.head? = some r) (passes : requestCheck s.straps.panelEn r = none) :
    s.headClaim =
      if r.code.toNat = 4 then some (r.surface, false)
      else if r.deferrable = true then some (r.surface, true)
      else none := by
  obtain ⟨rest, buffer⟩ := List.head?_eq_some_iff.mp head
  have known := fun load => Request.table_ne_none passes load
  simp only [State.headClaim, buffer, passes, Option.isSome_none, Bool.false_eq_true, if_false,
    Request.deferrable_iff]
  split
  next code => simp [code]
  next code => by_cases map : r.table = some .lineMap <;> simp [code, map, known code]
  next code => split <;> simp_all
  next no4 no5 no7 => simp [show r.code.toNat ≠ 4 from no4, show r.code.toNat ≠ 5 from no5,
      show r.code.toNat ≠ 7 from no7]

/-- No request claims a frame when the buffer is empty or its head fails the checks (R175). -/
theorem State.headClaim_eq_some_iff {i : SurfaceId} {both : Bool} : s.headClaim = some (i, both) ↔
    ∃ r, s.buffer.head? = some r ∧ requestCheck s.straps.panelEn r = none ∧ r.surface = i ∧
      ((r.code.toNat = 4 ∧ both = false) ∨ (r.deferrable = true ∧ both = true)) := by
  have apart (r : Request) : r.deferrable = true → r.code.toNat ≠ 4 := by
    rw [Request.deferrable_iff]
    rintro (⟨code, -⟩ | ⟨code, -⟩) <;> omega
  constructor
  · intro claim
    obtain ⟨r, rest, buffer⟩ : ∃ r rest, s.buffer = r :: rest := by
      cases buffer : s.buffer with
      | nil => simp [State.headClaim, buffer] at claim
      | cons r rest => exact ⟨r, rest, rfl⟩
    have head : s.buffer.head? = some r := by rw [buffer]; rfl
    have passes : requestCheck s.straps.panelEn r = none := by
      by_contra fails
      obtain ⟨rc, fails⟩ := Option.ne_none_iff_exists'.mp fails
      simp [State.headClaim, buffer, fails] at claim
    rw [State.headClaim_eq head passes] at claim
    refine ⟨r, head, passes, ?_⟩
    split at claim
    next code => cases claim; exact ⟨rfl, .inl ⟨code, rfl⟩⟩
    next =>
      split at claim
      next defers => cases claim; exact ⟨rfl, .inr ⟨defers, rfl⟩⟩
      next => cases claim
  · rintro ⟨r, head, passes, rfl, ⟨code, rfl⟩ | ⟨defers, rfl⟩⟩
    · rw [State.headClaim_eq head passes, if_pos code]
    · rw [State.headClaim_eq head passes, if_neg (apart r defers), if_pos defers]

theorem State.headWaits_iff : s.headWaits = true ↔ ∃ r : Request, s.buffer.head? = some r ∧
    requestCheck s.straps.panelEn r = none ∧
      ((r.code.toNat = 4 ∧ (s.surface r.surface).imageFlight ≠ none) ∨
        (r.deferrable = true ∧ (s.surface r.surface).busy = true)) := by
  have claims : s.headWaits = true ↔ ∃ i both, s.headClaim = some (i, both) ∧
      ((s.surface i).imageFlight ≠ none ∨ (both = true ∧ (s.surface i).penFlight ≠ none)) := by
    unfold State.headWaits
    cases claim : s.headClaim with
    | none => simp
    | some c =>
      obtain ⟨i, both⟩ := c
      simp only [Bool.or_eq_true, Bool.and_eq_true, Option.isSome_iff_ne_none]
      exact ⟨fun flying => ⟨i, both, rfl, flying⟩, by rintro ⟨_, _, ⟨⟩, flying⟩; exact flying⟩
  have busy (v : Surface) : v.busy = true ↔ v.imageFlight ≠ none ∨ v.penFlight ≠ none := by
    simp [Surface.busy, Option.isSome_iff_ne_none]
  simp only [claims, State.headClaim_eq_some_iff, busy]
  constructor
  · rintro ⟨i, both, ⟨r, head, passes, rfl, ⟨code, rfl⟩ | ⟨defers, rfl⟩⟩, flying⟩
    · exact ⟨r, head, passes, .inl ⟨code, by simpa using flying⟩⟩
    · exact ⟨r, head, passes, .inr ⟨defers, by simpa using flying⟩⟩
  · rintro ⟨r, head, passes, ⟨code, flying⟩ | ⟨defers, flying⟩⟩
    · exact ⟨r.surface, false, ⟨r, head, passes, rfl, .inl ⟨code, rfl⟩⟩, .inl flying⟩
    · exact ⟨r.surface, true, ⟨r, head, passes, rfl, .inr ⟨defers, rfl⟩⟩, by simpa using flying⟩

/-- A request at the head that nothing hinders is executed (R10, R176). -/
theorem State.AtHead.headWaits_of_unhindered (atHead : s.AtHead r code) (free : s.Unhindered r) :
    s.headWaits = false := by
  obtain ⟨-, head, -, -⟩ := atHead
  obtain ⟨noImage, notBusy⟩ := free
  rw [← Bool.not_eq_true, State.headWaits_iff]
  rintro ⟨r', head', -, waits⟩
  obtain rfl : r = r' := Option.some.inj (head.symm.trans head')
  obtain ⟨isRebase, flying⟩ | ⟨defers, busy⟩ := waits
  · exact flying (noImage isRebase)
  · simp [notBusy defers] at busy

/-- A write of a deferrable block waits for the frames of its surface (R176). -/
theorem State.AtHead.waits_of_busy (atHead : s.AtHead r code) (defers : r.deferrable = true)
    (busy : (s.surface r.surface).busy = true) : s.headWaits = true := by
  obtain ⟨-, head, -, passes⟩ := atHead
  exact State.headWaits_iff.mpr ⟨r, head, passes, .inr ⟨defers, busy⟩⟩

/-- A REBASE waits for the IMAGE frame of its surface (R10). -/
theorem State.AtHead.rebase_waits (atHead : s.AtHead r 4) (flying : (s.surface r.surface).imageFlight ≠ none) :
    s.headWaits = true := by
  obtain ⟨-, head, ownCode, passes⟩ := atHead
  exact State.headWaits_iff.mpr ⟨r, head, passes, .inl ⟨ownCode, flying⟩⟩

/-- A row whose request waits changes nothing (R10, R176). -/
theorem State.runHead_of_waits (atHead : s.AtHead r code) (waits : s.headWaits = true)
    (run : State → Request → State) : s.runHead code run = s := by
  obtain ⟨started, head, ownCode, passes⟩ := atHead
  obtain ⟨rest, buffer⟩ := List.head?_eq_some_iff.mp head
  simp [State.runHead, buffer, passes, waits]

/-- A row answers its own request by the first check that fails (R175). -/
theorem State.runHead_of_fails {rc : ResponseCode} (started : s.started = true) (head : s.buffer.head? = some r)
    (fails : requestCheck s.straps.panelEn r = some rc) (run : State → Request → State) :
    s.runHead r.code.toNat run = s.answer r rc [] := by
  obtain ⟨rest, buffer⟩ := List.head?_eq_some_iff.mp head
  simp [State.runHead, buffer, started, fails]

/-! ## What a request at the head holds (R25, R176) -/

theorem State.headHold_eq_some_iff {i : SurfaceId} {both : Bool} : s.headHold = some (i, both) ↔
    (s.headWaited = true ∨ s.headWaits = true) ∧ s.headClaim = some (i, both) := by
  simp [State.headHold]

theorem State.headHold_flying {i : SurfaceId} {both : Bool} : s.headHold = some (i, both) ↔
    ∃ r, s.buffer.head? = some r ∧ requestCheck s.straps.panelEn r = none ∧ r.surface = i ∧
      (s.headWaited = true ∨ (s.surface i).imageFlight ≠ none ∨ (r.deferrable = true ∧ (s.surface i).penFlight ≠ none)) ∧
      ((r.code.toNat = 4 ∧ both = false) ∨ (r.deferrable = true ∧ both = true)) := by
  rw [State.headHold_eq_some_iff, State.headClaim_eq_some_iff]
  have waits : s.headWaits = true ↔ ∃ r, s.buffer.head? = some r ∧ requestCheck s.straps.panelEn r = none ∧
      (r.code.toNat = 4 ∨ r.deferrable = true) ∧
      ((s.surface r.surface).imageFlight ≠ none ∨ (r.deferrable = true ∧ (s.surface r.surface).penFlight ≠ none)) := by
    rw [State.headWaits_iff]
    refine exists_congr fun r => and_congr_right fun _ => and_congr_right fun _ => ?_
    simp only [Surface.busy, Bool.or_eq_true, Option.isSome_iff_ne_none]
    tauto
  constructor
  · rintro ⟨held, r, head, passes, rfl, kind⟩
    refine ⟨r, head, passes, rfl, ?_, kind⟩
    obtain waited | flying := held
    · exact .inl waited
    · obtain ⟨r', head', -, -, flying⟩ := waits.mp flying
      obtain rfl : r = r' := Option.some.inj (head.symm.trans head')
      exact .inr flying
  · rintro ⟨r, head, passes, rfl, held, kind⟩
    refine ⟨held.imp_right fun flying => waits.mpr ⟨r, head, passes, ?_, flying⟩, r, head, passes, rfl, kind⟩
    exact kind.imp And.left And.left

theorem State.holdsImage_iff {i : SurfaceId} : s.holdsImage i = true ↔ ∃ both, s.headHold = some (i, both) := by
  unfold State.holdsImage
  cases hold : s.headHold with
  | none => simp
  | some c =>
    obtain ⟨j, both⟩ := c
    simp [eq_comm (a := i)]

theorem State.holdsPen_iff {i : SurfaceId} : s.holdsPen i = true ↔ s.headHold = some (i, true) := by
  unfold State.holdsPen
  cases hold : s.headHold with
  | none => simp
  | some c =>
    obtain ⟨j, both⟩ := c
    simp [eq_comm (a := i)]

/-! ## An answer and the frames it takes (R25, R166, R175) -/

/-- The surface with a waiting IMAGE frame put in flight, unless the kind is held (R25). -/
def Surface.imageTaken (v : Surface) (held : Bool) : Surface :=
  let takes := v.imageFlight.isNone && !held
  { v with
    imageSlot := if takes then none else v.imageSlot
    imageFlight := if takes then v.imageSlot.map (fun g => { frame := g, progress := .taken }) else v.imageFlight }

/-- The surface with a waiting PEN frame put in flight, unless the kind is held (R25). -/
def Surface.penTaken (v : Surface) (held : Bool) : Surface :=
  let takes := v.penFlight.isNone && !held
  { v with
    penSlot := if takes then none else v.penSlot
    penFlight := if takes then v.penSlot else v.penFlight }

theorem Surface.imageTaken_of_empty {v : Surface} (empty : v.imageSlot = none) (held : Bool) :
    v.imageTaken held = v := by
  cases v
  cases empty
  simp only [Surface.imageTaken, Option.map_none, ite_self]
  congr 1
  split
  next takes => cases Option.isNone_iff_eq_none.mp (Bool.and_eq_true _ _ ▸ takes).1; rfl
  next => rfl

theorem State.takeImageUnless_eq (held : Bool) (i : SurfaceId) :
    s.takeImageUnless held i = s.withSurface i ((s.surface i).imageTaken held) := by
  unfold State.takeImageUnless
  extract_lets v
  split
  next f slot =>
    have taken : v.imageTaken held = if v.imageFlight.isNone && !held then
        { v with imageSlot := none, imageFlight := some { frame := f, progress := .taken } } else v := by
      simp only [Surface.imageTaken, slot, Option.map_some]
      split
      · rfl
      · rw [← slot]
    change _ = s.withSurface i (v.imageTaken held)
    rw [taken]
    split
    · rfl
    · exact (State.withSurface_self s i).symm
  next slot =>
    rw [Surface.imageTaken_of_empty slot, State.withSurface_self]

theorem Surface.penTaken_of_empty {v : Surface} (empty : v.penSlot = none) (held : Bool) : v.penTaken held = v := by
  cases v
  cases empty
  simp only [Surface.penTaken, ite_self]
  congr 1
  split
  next takes => cases Option.isNone_iff_eq_none.mp (Bool.and_eq_true _ _ ▸ takes).1; rfl
  next => rfl

theorem State.takePenUnless_eq (held : Bool) (i : SurfaceId) :
    s.takePenUnless held i = s.withSurface i ((s.surface i).penTaken held) := by
  unfold State.takePenUnless
  extract_lets v
  split
  next f slot =>
    have taken : v.penTaken held = if v.penFlight.isNone && !held then
        { v with penSlot := none, penFlight := some f } else v := by
      simp only [Surface.penTaken, slot]
      split
      · rfl
      · rw [← slot]
    change _ = s.withSurface i (v.penTaken held)
    rw [taken]
    split
    · rfl
    · exact (State.withSurface_self s i).symm
  next slot =>
    rw [Surface.penTaken_of_empty slot, State.withSurface_self]

/-- The four kinds are taken by what is held before any of them (R25, notes/assumptions/8.md). -/
theorem State.takeFrames_eq : s.takeFrames = { s with
    pad := (s.pad.imageTaken (s.holdsImage .pad)).penTaken (s.holdsPen .pad)
    panel := (s.panel.imageTaken (s.holdsImage .panel)).penTaken (s.holdsPen .panel) } := by
  simp only [State.takeFrames, State.takeImageUnless_eq, State.takePenUnless_eq]
  rfl

theorem State.takeFrames_surface (i : SurfaceId) : s.takeFrames.surface i =
    ((s.surface i).imageTaken (s.holdsImage i)).penTaken (s.holdsPen i) := by
  rw [State.takeFrames_eq]
  cases i <;> rfl

theorem State.popHead_respond_eq (tag code : Byte) (rc : ResponseCode) (d : List Byte) :
    s.popHead.respond tag code rc d = { s with
      buffer := s.buffer.tail, headWaited := false
      queue := s.queue ++ [{ sequence := tag, timestamp := low16 s.time, placed := s.time,
                             body := .response code rc d }]
      attn := s.started } := by
  rw [State.respond_eq]
  rfl

/-- Settles O42: the RESPONSE is appended, the frames are taken by what the new head holds, and the holds follow from
the claims. -/
theorem answersPlaceOneResponse : Obligations.AnswersPlaceOneResponse := by
  refine ⟨fun s r rc data => ?answer, fun s i => ⟨?image, ?pen⟩, fun s => State.headWaits_iff⟩
  case answer =>
    extract_lets t next
    obtain ⟨v, w, a, whole⟩ := s.answer_frame r rc data
    have due : t.attn = t.attnDue := by
      change (State.takeFrames _).attn = (State.takeFrames _).attnDue
      rw [State.takeFrames_eq]
      rfl
    have surfaces (i : SurfaceId) :
        t.surface i = ((s.surface i).imageTaken (next.holdsImage i)).penTaken (next.holdsPen i) :=
      State.takeFrames_surface i
    have popped : t = { s with
        pad := t.pad, panel := t.panel, queue := s.queue ++ [s.responseTo r rc data], buffer := s.buffer.tail,
        headWaited := false, attn := t.attn } := by
      change s.answer r rc data = { s with
        pad := (s.answer r rc data).pad, panel := (s.answer r rc data).panel, queue := _, buffer := _,
        headWaited := false, attn := (s.answer r rc data).attn }
      rw [whole]
      rfl
    have queue : t.queue = s.queue ++ [s.responseTo r rc data] := congrArg State.queue popped
    have buffer : t.buffer = s.buffer.tail := congrArg State.buffer popped
    refine ⟨queue, buffer, due, surfaces, ?_⟩
    rw [queue, buffer]
    exact popped
  case image =>
    rw [State.holdsImage_iff]
    simp only [State.headHold_flying]
    constructor
    · rintro ⟨both, r, head, passes, surface, held, kind⟩
      exact ⟨r, ⟨head, passes, surface, held⟩, kind.imp And.left And.left⟩
    · rintro ⟨r, ⟨head, passes, surface, held⟩, code | defers⟩
      · exact ⟨false, r, head, passes, surface, held, .inl ⟨code, rfl⟩⟩
      · exact ⟨true, r, head, passes, surface, held, .inr ⟨defers, rfl⟩⟩
  case pen =>
    rw [State.holdsPen_iff, State.headHold_flying]
    constructor
    · rintro ⟨r, head, passes, surface, held, ⟨-, ⟨⟩⟩ | ⟨defers, -⟩⟩
      exact ⟨r, ⟨head, passes, surface, held⟩, defers⟩
    · rintro ⟨r, ⟨head, passes, surface, held⟩, defers⟩
      exact ⟨r, head, passes, surface, held, .inr ⟨defers, rfl⟩⟩

/-! ## The checks of R175 -/

theorem requestCheck_of_unknown {panel : Bool} (unknown : r.known = false) :
    requestCheck panel r = some .unknownRequest := by
  simp [requestCheck, unknown]

theorem requestCheck_of_misfit {panel : Bool} (known : r.known = true) (misfit : r.lengthFits = false) :
    requestCheck panel r = some .badLength := by
  simp [requestCheck, known, misfit]

theorem requestCheck_of_noSurface {panel : Bool} (known : r.known = true) (fits : r.lengthFits = true)
    (named : r.surfaceByte = none) : requestCheck panel r = r.contentCheck := by
  simp [requestCheck, known, fits, named]

theorem requestCheck_of_surface {panel : Bool} {b : Nat} (known : r.known = true) (fits : r.lengthFits = true)
    (named : r.surfaceByte = some b) : requestCheck panel r =
      if 1 < b then some .badValue else if b == 1 && !panel then some .noSurface else r.contentCheck := by
  simp [requestCheck, known, fits, named]

theorem Request.known_iff : r.known = true ↔ 1 ≤ r.code.toNat ∧ r.code.toNat ≤ 15 := by simp [Request.known]

/-- Every row executes the request of its own code (R188). -/
theorem exec_of_rowOf {row : Instr} (known : 1 ≤ code) (row_eq : rowOf code = some row) :
    ∃ run, exec row s = .next (s.runHead code run) := by
  have bound : code ≤ 15 := by
    by_contra past
    rw [rowOf, List.getElem?_eq_none (by simp; omega)] at row_eq
    cases row_eq
  interval_cases code <;> (cases row_eq; exact ⟨_, rfl⟩)

/-- Check 2 of R175 in one line per length (R188, R28). -/
theorem Request.lengthFits_iff (known : 1 ≤ r.code.toNat ∧ r.code.toNat ≤ 15) :
    let c := r.code.toNat
    let n := r.payload.length
    r.lengthFits = true ↔
      ((c = 1 ∨ c = 14 ∨ c = 15) → n = 0) ∧ ((c = 2 ∨ c = 3 ∨ c = 4 ∨ c = 9 ∨ c = 10) → n = 1) ∧
      ((c = 8 ∨ c = 11) → n = 2) ∧ (c = 12 → n = 3) ∧ (c = 6 → n = 4) ∧ (c = 5 → 3 ≤ n) ∧ (c = 7 → 2 ≤ n) ∧
      (c = 13 → 2 ≤ n ∧ n ≤ 65) := by
  obtain ⟨low, high⟩ := known
  simp only [Request.lengthFits]
  generalize r.code.toNat = c at low high
  interval_cases c <;> simp

theorem Request.block_eq_queue_iff : r.block = some .queue ↔ byteAt r.payload 0 = 5 := by
  unfold Request.block valueIn
  generalize byteAt r.payload 0 = b
  match b with
  | 0 | 1 | 2 | 3 | 4 | 5 => decide
  | b + 6 => simp [blockOrder]

/-- Where a request names its surface (R175, R188). -/
theorem Request.surfaceByte_eq (known : 1 ≤ r.code.toNat ∧ r.code.toNat ≤ 15) :
    let c := r.code.toNat
    let first := byteAt r.payload 0
    r.surfaceByte =
      if c = 2 ∨ c = 3 ∨ c = 4 ∨ c = 11 ∨ c = 13 then some first
      else if c = 5 ∨ c = 6 ∨ ((c = 7 ∨ c = 8) ∧ first ≠ 5) then some (byteAt r.payload 1)
      else none := by
  obtain ⟨low, high⟩ := known
  have queue : (r.block == some BlockId.queue) = decide (byteAt r.payload 0 = 5) := by
    rw [Bool.eq_iff_iff, beq_iff_eq, decide_eq_true_iff, Request.block_eq_queue_iff]
  simp only [Request.surfaceByte, queue]
  generalize r.code.toNat = c at low high
  interval_cases c <;> simp

/-- The BAD_TABLE test of R178 and the length of the entries (R190). -/
theorem Request.contentCheck_load (load : r.code.toNat = 5) :
    let n := r.payload.length
    let first := byteAt r.payload 0
    r.contentCheck =
      if 4 < first ∨ (first = 3 ∧ r.surface = .panel) ∨ (first = 4 ∧ r.surface = .pad) then some .badTable
      else if n ≤ 3 ∨ (n - 3) % [2, 23, 14, 12, 2].getD first 1 ≠ 0 then some .badLength
      else none := by
  simp only [Request.contentCheck, load, Request.table, valueIn, Request.entryBytes, List.length_drop]
  generalize byteAt r.payload 0 = b
  match b with
  | 0 | 1 | 2 | 3 | 4 => cases r.surface <;> simp [tableOrder, hasTable, entrySize, Nat.sub_eq_zero_iff_le]
  | b + 5 => simp [tableOrder]

/-- The BAD_TABLE test of R177 and the length of the block (R190). -/
theorem Request.contentCheck_set (set : r.code.toNat = 7) (fits : 2 ≤ r.payload.length) :
    let n := r.payload.length
    let first := byteAt r.payload 0
    r.contentCheck =
      if 5 < first ∨ (first = 4 ∧ r.surface = .pad) then some .badTable
      else if n ≠ 2 + (if first = 3 ∧ r.surface = .panel then 13 else [6, 17, 8, 5, 3, 5].getD first 0) then
        some .badLength
      else none := by
  have whole (k : Nat) : (if (r.payload.length - 2 != k) = true then some ResponseCode.badLength else none) =
      if r.payload.length = 2 + k then none else some .badLength := by
    rw [← ite_not]
    exact if_congr (by rw [bne_iff_ne]; omega) rfl rfl
  simp only [Request.contentCheck, set, Request.block, valueIn, Request.blockBytes, List.length_drop, whole]
  generalize byteAt r.payload 0 = b
  match b with
  | 0 | 1 | 2 | 3 | 4 | 5 => cases r.surface <;> simp [blockOrder, hasBlock, blockLength] <;> rfl
  | b + 6 => simp [blockOrder]

theorem Request.contentCheck_other (notLoad : r.code.toNat ≠ 5) (notSet : r.code.toNat ≠ 7) :
    r.contentCheck = none := by
  simp [Request.contentCheck, notLoad, notSet]

theorem Request.surface_eq_panel_iff : r.surface = .panel ↔ r.surfaceByte = some 1 := by
  simp [Request.surface]

theorem Request.surface_eq_pad_iff : r.surface = .pad ↔ r.surfaceByte ≠ some 1 := by
  simp [Request.surface]

/-- Settles O49. -/
theorem requestsAreCheckedThenMayWait : Obligations.RequestsAreCheckedThenMayWait := by
  refine ⟨fun s r row rc started head known row_eq fails => ?failing, fun s r started head unknown => ?unknown,
    fun panel r => ?checks, fun s r atHead defers busy => ?setParams, fun s r atHead defers busy => ?loadTable,
    fun s r atHead flying => ?rebase⟩
  case failing =>
    obtain ⟨run, runs⟩ := exec_of_rowOf (s := s) known row_eq
    rw [runs, State.runHead_of_fails started head fails]
  case unknown =>
    obtain ⟨rest, buffer⟩ := List.head?_eq_some_iff.mp head
    have unknown : r.known = false := by
      rw [← Bool.not_eq_true, Request.known_iff]
      omega
    have run : exec .unknownRequest s = .next s.unknownHead := rfl
    simp [run, State.unknownHead, buffer, started, unknown]
  case setParams =>
    exact congrArg Host.Outcome.next (State.runHead_of_waits atHead (atHead.waits_of_busy defers busy) _)
  case loadTable =>
    exact congrArg Host.Outcome.next (State.runHead_of_waits atHead (atHead.waits_of_busy defers busy) _)
  case rebase =>
    exact congrArg Host.Outcome.next (State.runHead_of_waits atHead (atHead.rebase_waits flying) _)
  case checks =>
    intro c n first second fits named other
    refine ⟨fun unknown => requestCheck_of_unknown ?_, fun low high => ?_⟩
    · rw [← Bool.not_eq_true, Request.known_iff]
      omega
    have known : 1 ≤ r.code.toNat ∧ r.code.toNat ≤ 15 := ⟨low, high⟩
    have isKnown := Request.known_iff.mpr known
    have fits_iff : r.lengthFits = true ↔ fits := Request.lengthFits_iff known
    have named_eq : r.surfaceByte = named := Request.surfaceByte_eq known
    refine ⟨fun misfit => ?misfit, fun fit x isNamed tooLarge => ?badValue, fun fit isPanel absent => ?noSurface,
      fun fit present => ?content⟩
    case misfit =>
      rw [← fits_iff, Bool.not_eq_true] at misfit
      exact requestCheck_of_misfit isKnown misfit
    case badValue =>
      rw [requestCheck_of_surface isKnown (fits_iff.mpr fit) (named_eq.trans isNamed)]
      exact if_pos tooLarge
    case noSurface =>
      rw [requestCheck_of_surface isKnown (fits_iff.mpr fit) (named_eq.trans isPanel), absent]
      rfl
    case content =>
      have goesOn : requestCheck panel r = r.contentCheck := by
        obtain none | pad | ⟨isPanel, fitted⟩ := present
        · exact requestCheck_of_noSurface isKnown (fits_iff.mpr fit) (named_eq.trans none)
        · exact requestCheck_of_surface isKnown (fits_iff.mpr fit) (named_eq.trans pad)
        · rw [requestCheck_of_surface isKnown (fits_iff.mpr fit) (named_eq.trans isPanel), fitted]
          rfl
      have panel_iff : r.surface = .panel ↔ named = some 1 := by rw [Request.surface_eq_panel_iff, named_eq]
      have pad_iff (some0 : named ≠ none) : r.surface = .pad ↔ named = some 0 := by
        rw [Request.surface_eq_pad_iff, named_eq]
        obtain none | pad | ⟨isPanel, -⟩ := present
        · exact absurd none some0
        · simp [pad]
        · simp [isPanel]
      refine ⟨?_, by rw [Request.surface, named_eq]; simp⟩
      rw [goesOn]
      obtain ⟨-, -, -, -, -, loadFits, setFits, -⟩ := fit
      by_cases load : c = 5
      · have isNamed : named = some second := by simp [named, load]
        have short : n ≤ 3 ↔ n = 3 := by have := loadFits load; omega
        have pad := pad_iff (by simp [isNamed])
        rw [Request.contentCheck_load load]
        simp only [other, if_pos load]
        exact if_congr (by rw [panel_iff, pad]) rfl (if_congr (by rw [← short]) rfl rfl)
      · by_cases set : c = 7
        · have pen : first = 4 → named ≠ none := fun pen => by simp [named, set, pen]
          have noPen : (first = 4 ∧ r.surface = .pad) ↔ (first = 4 ∧ named = some 0) :=
            and_congr_right fun isPen => pad_iff (pen isPen)
          rw [Request.contentCheck_set set (setFits set)]
          simp only [other, if_neg load, if_pos set]
          have size : (if first = 3 ∧ r.surface = .panel then 13 else [6, 17, 8, 5, 3, 5].getD first 0) =
              if first = 3 ∧ named = some 1 then 13 else [6, 17, 8, 5, 3, 5].getD first 0 :=
            if_congr (by rw [panel_iff]) rfl rfl
          exact if_congr (by rw [noPen]) rfl (if_congr (by rw [size]) rfl rfl)
        · rw [Request.contentCheck_other load set]
          simp only [other, if_neg load, if_neg set]

end Sys2Proof.Machine
end

section
/-! PROOFS. START, STOP, REBASE, CAPTURE, READ_CAPTURE and RELAY (R4, R10, R12, R28, R183). -/

namespace Sys2Proof.Machine

variable {s : State} {r : Request} {code : Nat}

/-! ## The surface that a request names -/

/-- A request that passes its checks names PAD or PANEL (R175). -/
theorem requestCheck_surface {panel : Bool} {b : Nat} (passes : requestCheck panel r = none)
    (named : r.surfaceByte = some b) : (b = 0 ∧ r.surface = .pad) ∨ (b = 1 ∧ r.surface = .panel) := by
  have inRange : ¬ 1 < b := by
    intro tooLarge
    unfold requestCheck at passes
    simp only [named, if_pos tooLarge] at passes
    split at passes
    · cases passes
    · split at passes <;> cases passes
  obtain rfl | rfl : b = 0 ∨ b = 1 := by omega
  · exact .inl ⟨rfl, by simp [Request.surface, named]⟩
  · exact .inr ⟨rfl, by simp [Request.surface, named]⟩

/-- The surface operand of a request that passes its checks is the surface's number (R175, R188). -/
theorem enumByte_surface {panel : Bool} {surf : Byte} (passes : requestCheck panel r = none)
    (named : r.surfaceByte = some surf.toNat) : enumByte surfaceOrder r.surface = surf := by
  obtain ⟨number, surface⟩ | ⟨number, surface⟩ := requestCheck_surface passes named
  · rw [surface]
    exact (BitVec.eq_of_toNat_eq number).symm
  · rw [surface]
    exact (BitVec.eq_of_toNat_eq number).symm

/-- A row that waits for no frame executes its request. -/
theorem State.AtHead.run_next (atHead : s.AtHead r code) (waitsNot : s.headWaits = false)
    (run : State → Request → State) :
    (Host.Outcome.next (s.runHead code run) : Host.Outcome State Fault Refusal) = .next (run s r) := by
  rw [State.runHead_of_atHead atHead waitsNot]

/-! ## START (R3, R4) -/

theorem filter_cons_itemIf (missing : ReadyItem → Bool) (item : ReadyItem) (rest : List ReadyItem) :
    (item :: rest).filter missing = itemIf (missing item) item ++ rest.filter missing := by
  cases h : missing item <;> simp [itemIf, h]

/-- The NOT_READY list is the list of R4 without the items that are ready. -/
theorem State.notReady_eq (i : SurfaceId) : s.notReady i = readyItemOrder.filter (s.missingItem i) := by
  simp only [readyItemOrder, filter_cons_itemIf, List.filter_nil, List.append_nil, State.notReady, List.append_assoc,
    Bool.not_and]
  cases i <;> rfl

/-- Settles O50. -/
theorem startNeedsEveryItemReady : Obligations.StartNeedsEveryItemReady := by
  intro s r atHead i v missing
  have runs : exec .start s = .next (s.runStart r) :=
    atHead.run_next (State.headWaits_of_other_code atHead (by decide) (by decide) (by decide)) _
  have listed : s.notReady r.surface = missing := State.notReady_eq i
  simp only [runs, State.runStart, listed, Host.Outcome.next.injEq]
  refine ⟨fun busy => ?_, fun stopped some => ?_, fun stopped none => ?_⟩
  · rw [if_pos (bne_iff_ne.mpr busy)]
  · rw [if_neg (by simpa using stopped), if_pos (bne_iff_ne.mpr some)]
  · rw [if_neg (by simpa using stopped), if_neg (by simpa using none)]
    rfl

/-! ## STOP and REBASE (R10, R12) -/

/-- The slots, the surface and the closing-only report of a rebase (R10, R106). -/
theorem State.rebaseSlots_eq (i : SurfaceId) : s.rebaseSlots i =
    ({ s with slots := s.slots.map (fun (k : Slot) => if k.ofSurface i then k.endEffect else k) }.withSurface i
      (s.surface i).acquiring).closingOnlyReport i := by
  cases i <;> rfl

/-- Settles O51: STOP waits for nothing, and a REBASE that waits no longer acts by its surface's state. -/
theorem stopAndRebaseAnswerAfterTheirEffects : Obligations.StopAndRebaseAnswerAfterTheirEffects := by
  refine ⟨fun s r atHead => ?stop, fun s r atHead free => ?rebase⟩
  case stop =>
    have runs : exec .stop s = .next (s.runStop r) :=
      atHead.run_next (State.headWaits_of_other_code atHead (by decide) (by decide) (by decide)) _
    simp only [runs, State.runStop, Host.Outcome.next.injEq]
    exact ⟨fun stopped => if_pos (beq_iff_eq.mpr stopped), fun active => if_neg (by simpa using active)⟩
  case rebase =>
    intro i v slots rebased
    have runs : exec .rebase s = .next (s.runRebase r) :=
      atHead.run_next (atHead.headWaits_of_unhindered free) _
    have slots_eq : s.rebaseSlots i = rebased := State.rebaseSlots_eq i
    rw [runs]
    refine ⟨?idle, ?engineKept, fun running isPad => ?engineCancelled⟩
    case idle =>
      rintro (stopped | stalled)
      · rw [State.runRebase, show (s.surface r.surface).status = .stopped from stopped]
      · rw [State.runRebase, show (s.surface r.surface).status = .stalled from stalled]
    case engineKept =>
      intro kept
      have noCancel : s.rebase i = rebased := by
        rw [← slots_eq]
        unfold State.rebase
        refine if_neg fun cancels => ?_
        obtain ⟨isPad, running⟩ : i = .pad ∧ s.pad.status = .running := by simpa using cancels
        obtain acquiring | ⟨-, isPanel⟩ := kept
        · simp [v, isPad, State.surface, running] at acquiring
        · simp [isPad] at isPanel
      rw [State.runRebase, ← noCancel]
      obtain acquiring | ⟨running, -⟩ := kept
      · rw [show (s.surface r.surface).status = .acquiring from acquiring]
      · rw [show (s.surface r.surface).status = .running from running]
    case engineCancelled =>
      have cancels : s.rebase i = rebased.cancelOutside := by
        rw [← slots_eq]
        unfold State.rebase
        have padRuns : s.pad.status = .running := by simpa [v, isPad, State.surface] using running
        exact if_pos (by simp [isPad, padRuns])
      rw [State.runRebase, show (s.surface r.surface).status = .running from running, ← cancels]

/-! ## CAPTURE and READ_CAPTURE (R51, R183) -/

theorem captureKind_none_iff {n : Nat} : valueIn captureKindOrder n = none ↔ 3 ≤ n := by
  simp [valueIn, captureKindOrder]

/-- A capture that becomes pending keeps the request's place in the budget (R172). -/
theorem State.holdCapture_budget (atHead : s.AtHead r code) (idle : s.pendingCapture = none) (c : PendingCapture) :
    (s.holdCapture c).budget = s.budget := by
  have length : s.buffer.tail.length + 1 = s.buffer.length := by
    have := List.length_pos_iff.mpr atHead.buffer_ne_nil
    rw [List.length_tail]
    omega
  rw [State.holdCapture, State.takeFrames_eq]
  change s.buffer.tail.length + 1 + s.responseCount = _
  rw [State.budget_eq, idle, length]
  rfl

/-- Settles O58: the refusals of R183 in their order, then by the kind. -/
theorem captureWaitsOrTakesTheBaseline : Obligations.CaptureWaitsOrTakesTheBaseline := by
  intro s r surf kind atHead payload i v able
  obtain ⟨-, -, ownCode, passes⟩ := id atHead
  have runs : exec .capture s = .next (s.runCapture r) :=
    atHead.run_next (State.headWaits_of_other_code atHead (by decide) (by decide) (by decide)) _
  have kindByte : byteAt r.payload 1 = kind.toNat := by rw [payload]; rfl
  have surfByte : enumByte surfaceOrder i = surf :=
    enumByte_surface passes (by simp [Request.surfaceByte, ownCode, payload, byteAt])
  have unable_iff : (v.status != .acquiring && v.status != .running) = true ↔ ¬ able := by simp [able]
  have known (k : CaptureKind) (isKind : valueIn captureKindOrder kind.toNat = some k) :
      s.runCapture r =
        if s.pendingCapture.isSome then s.answer r .busy []
        else if v.status != .acquiring && v.status != .running then s.answer r .surfaceStopped []
        else if k == .baseline then
          (s.withCaptureBuffer (some (s.baselineContent i))).answer r .ok (s.baselineContent i).responseData
        else s.holdCapture { tag := r.tag, surface := i, kind := k } := by
    simp only [State.runCapture, kindByte, isKind]
    rfl
  have someKind (below : kind.toNat < 3) : ∃ k, valueIn captureKindOrder kind.toNat = some k :=
    Option.ne_none_iff_exists'.mp fun none => by have := captureKind_none_iff.mp none; omega
  refine ⟨fun unknown => ?unknown, fun below pending => ?pending, fun below idle unable => ?stopped,
    fun isBaseline idle isAble => ?baseline, fun below idle isAble => ?waits⟩
  all_goals rw [runs]
  case unknown =>
    rw [State.runCapture, kindByte, captureKind_none_iff.mpr unknown]
  case pending =>
    obtain ⟨k, isKind⟩ := someKind below
    rw [known k isKind, if_pos (Option.isSome_iff_ne_none.mpr pending)]
  case stopped =>
    obtain ⟨k, isKind⟩ := someKind below
    rw [known k isKind, if_neg (by simp [idle]), if_pos (unable_iff.mpr unable)]
  case baseline =>
    have isKind : valueIn captureKindOrder kind.toNat = some .baseline := by rw [isBaseline]; rfl
    rw [known _ isKind, if_neg (by simp [idle]), if_neg (by simpa [unable_iff] using isAble),
      if_pos (show (CaptureKind.baseline == .baseline) = true from rfl)]
    have data : (s.baselineContent i).responseData = [2, surf, byteOf v.geometry.driveLines,
        byteOf v.geometry.senseLines, 0, 0, 0, (if v.baselineValid then 1 else 0)] := by
      have atZero : stamp (low16 0) = [0, 0] := by decide
      rw [← surfByte, ← flagByte_single, CaptureBuffer.responseData]
      change _ ++ stamp (low16 0) ++ _ = _
      rw [atZero]
      rfl
    rw [data]
    rfl
  case waits =>
    obtain ⟨k, isKind, notBaseline, k_eq⟩ : ∃ k, valueIn captureKindOrder kind.toNat = some k ∧ k ≠ .baseline ∧
        k = if kind = 0 then .raw else .delta := by
      obtain zero | one : kind = 0 ∨ kind = 1 := by bv_omega
      · exact ⟨.raw, by rw [zero]; rfl, by decide, by rw [zero]; rfl⟩
      · exact ⟨.delta, by rw [one]; rfl, by decide, by rw [one]; rfl⟩
    rw [known k isKind, if_neg (by simp [idle]), if_neg (by simpa [unable_iff] using isAble),
      if_neg (by simpa using notBaseline), k_eq]
    exact ⟨_, rfl, rfl, State.holdCapture_budget atHead idle _, by rw [State.holdCapture, State.takeFrames_eq]; rfl⟩

theorem le16_word16 (lo hi : Byte) : le16 (lo.toNat + 256 * hi.toNat : Nat) = [lo, hi] := by
  have small : lo.toNat + 256 * hi.toNat < 2 ^ 16 := by have := lo.isLt; have := hi.isLt; omega
  have value : (BitVec.ofInt 16 ((lo.toNat + 256 * hi.toNat : Nat) : Int)).toNat = lo.toNat + 256 * hi.toNat := by
    rw [BitVec.ofInt_natCast, BitVec.toNat_ofNat, Nat.mod_eq_of_lt small]
  have low : (BitVec.ofInt 16 ((lo.toNat + 256 * hi.toNat : Nat) : Int)).extractLsb' 0 8 = lo := by
    apply BitVec.eq_of_toNat_eq
    rw [BitVec.extractLsb'_toNat, value]
    have := lo.isLt
    omega
  have high : (BitVec.ofInt 16 ((lo.toNat + 256 * hi.toNat : Nat) : Int)).extractLsb' 8 8 = hi := by
    apply BitVec.eq_of_toNat_eq
    rw [BitVec.extractLsb'_toNat, value]
    have := hi.isLt
    omega
  rw [le16, low, high]

/-- The byte of READ_CAPTURE that packs surface, kind and valid (R189). -/
theorem capturePacked_bits (i : SurfaceId) (kind : CaptureKind) (valid : Bool) :
    let packed := byteOf (codeIn surfaceOrder i + 2 * codeIn captureKindOrder kind + 8 * (if valid then 1 else 0))
    packed.getLsbD 0 = (i == .panel) ∧ packed.getLsbD 3 = valid ∧ packed.getLsbD 1 = (kind == .delta) ∧
      packed.getLsbD 2 = (kind == .baseline) := by
  cases i <;> cases kind <;> cases valid <;> decide

/-- Settles O59: the piece ends at 120 values and at the end of the image. -/
theorem readCaptureReturnsAPiece : Obligations.ReadCaptureReturnsAPiece := by
  intro s r lo hi count atHead payload offset
  have runs : exec .readCapture s = .next (s.runReadCapture r) :=
    atHead.run_next (State.headWaits_of_other_code atHead (by decide) (by decide) (by decide)) _
  have offsetBytes : word16At r.payload 0 = offset := by rw [payload]; rfl
  have countByte : byteAt r.payload 2 = count.toNat := by rw [payload]; rfl
  rw [runs]
  refine ⟨fun empty => ?empty, fun c held => ?held⟩
  case empty => rw [State.runReadCapture, empty]
  case held =>
    intro size n
    have run : s.runReadCapture r =
        if size ≤ offset then s.answer r .badIndex []
        else if count.toNat == 0 then s.answer r .badValue []
        else if min 120 (size - offset) < count.toNat then s.answer r .clamped (c.piece offset (min 120 (size - offset)))
        else s.answer r .ok (c.piece offset count.toNat) := by
      simp only [State.runReadCapture, held, offsetBytes, countByte]
      rfl
    rw [run]
    refine ⟨fun past => ?_, fun inside zero => ?_, fun inside some => ?_⟩
    · rw [if_pos past]
    · rw [if_neg (by omega), if_pos (by simp [zero])]
    · have counted : count.toNat ≠ 0 := fun zero => some (BitVec.eq_of_toNat_eq zero)
      obtain ⟨panel, valid, delta, baseline⟩ := capturePacked_bits c.surface c.kind c.valid
      refine ⟨_, panel, valid, delta, baseline, ?_⟩
      rw [if_neg (by omega), if_neg (by simpa using counted)]
      have piece (k : Nat) : c.piece offset k = [byteOf c.driveLines, byteOf c.senseLines, c.sequence,
          byteOf (codeIn surfaceOrder c.surface + 2 * codeIn captureKindOrder c.kind + 8 * (if c.valid then 1 else 0)),
          lo, hi, byteOf k] ++ ((c.image.flatten.drop offset).take k).flatMap le16 := by
        rw [CaptureBuffer.piece, le16_word16]
        rfl
      rw [← piece n]
      by_cases cut : min 120 (size - offset) < count.toNat
      · rw [if_pos cut, show n = min 120 (size - offset) from min_eq_right cut.le, if_pos cut]
      · rw [if_neg cut, show n = count.toNat from min_eq_left (not_lt.mp cut), if_neg (lt_irrefl _)]

/-! ## RELAY (R28) -/

/-- An answer leaves what the return lanes send (R28). -/
theorem State.answer_returnLane (rc : ResponseCode) (data : List Byte) (i : SurfaceId) :
    ((s.answer r rc data).surface i).returnLane = (s.surface i).returnLane := by
  rw [State.answer, State.takeFrames_surface]
  cases i <;> rfl

/-- Settles O60: the relay buffer decides, and the return lane shows it. -/
theorem relayHoldsOnePacket : Obligations.RelayHoldsOnePacket := by
  refine ⟨fun s r surf bytes atHead payload => ?request, fun s i => ?sent⟩
  case request =>
    intro i
    have runs : exec .relay s = .next (s.runRelay r) :=
      atHead.run_next (State.headWaits_of_other_code atHead (by decide) (by decide) (by decide)) _
    rw [runs]
    refine ⟨fun occupied => ?_, fun empty => ⟨_, rfl, ?_, ?_⟩⟩
    · rw [State.runRelay, if_pos (Option.isSome_iff_ne_none.mpr occupied)]
    · rw [State.runRelay, if_neg (by simp [show (s.surface r.surface).relay = none from empty]), payload]
      rfl
    · rw [State.runRelay, if_neg (by simp [show (s.surface r.surface).relay = none from empty]), payload]
      refine (State.answer_returnLane _ _ i).trans ?_
      rw [show r.surface = i from rfl, State.withSurface_surface]
      rfl
  case sent =>
    refine ⟨_, rfl, rfl, ?_⟩
    cases i <;> rfl

end Sys2Proof.Machine
end

section
/-! PROOFS. LOAD_TABLE: the entries of its payload, what each table refuses, and what it writes (R30, R70, R76, R138,
R147, R178, R190). -/

namespace Sys2Proof.Machine

variable {s : State} {r : Request} {code : Nat}

/-! ## Codes of enumerations (R187) -/

/-- A code names at most one value, at its own place. -/
theorem valueIn_eq_some {α : Type} [DecidableEq α] {order : List α} {n : Nat} {a : α} (nodup : order.Nodup)
    (named : valueIn order n = some a) : n = codeIn order a := by
  obtain ⟨inside, rfl⟩ := List.getElem?_eq_some_iff.mp named
  exact (nodup.idxOf_getElem n inside).symm

theorem valueIn_lt {α : Type} {order : List α} {n : Nat} {a : α} (named : valueIn order n = some a) :
    n < order.length :=
  (List.getElem?_eq_some_iff.mp named).1

theorem usedByte_le {n : Nat} {b : Bool} (used : usedByte n = some b) : n ≤ 1 := by
  unfold usedByte at used
  split at used
  next zero => have := beq_iff_eq.mp zero; omega
  next =>
    split at used
    next one => have := beq_iff_eq.mp one; omega
    next => cases used

/-! ## What each table refuses (R70, R76, R147) -/

/-- A CLASS entry that is accepted has a used byte, bounds in order and known enumerations (R70). -/
theorem ClassEntry.ofBytes_accepts {p : List Byte} {e : ClassEntry} (accepted : ClassEntry.ofBytes p = some e) :
    byteAt p 0 ≤ 1 ∧ word16At p 1 ≤ word16At p 3 ∧ word16At p 5 ≤ word16At p 7 ∧ word16At p 9 ≤ word16At p 11 ∧
      word16At p 13 ≤ word16At p 15 ∧ word16At p 17 ≤ word16At p 19 ∧ byteAt p 21 ≤ 2 ∧ byteAt p 22 ≤ 4 := by
  simp only [ClassEntry.ofBytes, Option.bind_eq_bind, Option.bind_eq_some_iff, Option.ite_none_right_eq_some]
    at accepted
  obtain ⟨used, isUsed, _, isEdge, result, isResult, ⟨area, peak, width, height, density, known⟩, -⟩ := accepted
  have resultCode : byteAt p 22 ≤ 4 := by
    have place := valueIn_eq_some (by decide) isResult
    rw [place]
    revert known
    cases result <;> decide
  exact ⟨usedByte_le isUsed, area, peak, width, height, density, Nat.le_of_lt_succ (valueIn_lt isEdge), resultCode⟩

/-- A ZONE entry that is accepted has a used byte, corners in order and known policies (R76). -/
theorem ZoneEntry.ofBytes_accepts {p : List Byte} {e : ZoneEntry} (accepted : ZoneEntry.ofBytes p = some e) :
    byteAt p 0 ≤ 1 ∧ word16At p 1 ≤ word16At p 5 ∧ word16At p 3 ≤ word16At p 7 ∧ byteAt p 9 ≤ 3 ∧ byteAt p 10 ≤ 3 ∧
      byteAt p 11 ≤ 3 ∧ byteAt p 12 ≤ 3 ∧ byteAt p 13 ≤ 3 := by
  simp only [ZoneEntry.ofBytes, Option.bind_eq_bind, Option.bind_eq_some_iff, Option.ite_none_right_eq_some]
    at accepted
  obtain ⟨used, isUsed, _, laptop, _, stand, _, tent, _, tablet, _, closed, ⟨xs, ys⟩, -⟩ := accepted
  have policy {n : Nat} {z : ZonePolicy} (named : valueIn zonePolicyOrder n = some z) : n ≤ 3 :=
    Nat.le_of_lt_succ (valueIn_lt named)
  exact ⟨usedByte_le isUsed, xs, ys, policy laptop, policy stand, policy tent, policy tablet, policy closed⟩

/-- The direction codes of each kind of gesture (R146). -/
theorem directionAllowed_codes {kind : GestureKind} {d : Direction} (allowed : directionAllowed kind d = true) :
    (codeIn gestureKindOrder kind = 1 → codeIn directionOrder d ≤ 4) ∧
      (codeIn gestureKindOrder kind = 2 → 5 ≤ codeIn directionOrder d ∧ codeIn directionOrder d ≤ 7) ∧
      (codeIn gestureKindOrder kind = 0 ∨ codeIn gestureKindOrder kind = 3 → codeIn directionOrder d = 0) := by
  revert allowed
  cases kind <;> cases d <;> decide

/-- A GESTURE entry that is accepted has used and capture bytes, a known kind with one of its directions, a finger
count and an event code (R147). -/
theorem GestureEntry.ofBytes_accepts {p : List Byte} {e : GestureEntry} (accepted : GestureEntry.ofBytes p = some e) :
    byteAt p 0 ≤ 1 ∧ byteAt p 1 ≤ 3 ∧ 1 ≤ byteAt p 2 ∧ byteAt p 2 ≤ 5 ∧ (byteAt p 1 = 1 → byteAt p 3 ≤ 4) ∧
      (byteAt p 1 = 2 → 5 ≤ byteAt p 3 ∧ byteAt p 3 ≤ 7) ∧ (byteAt p 1 = 0 ∨ byteAt p 1 = 3 → byteAt p 3 = 0) ∧
      byteAt p 10 ≤ 1 ∧ 1 ≤ byteAt p 11 ∧ byteAt p 11 ≤ 250 := by
  simp only [GestureEntry.ofBytes, Option.bind_eq_bind, Option.bind_eq_some_iff, Option.ite_none_right_eq_some,
    Bool.and_eq_true, within, decide_eq_true_eq] at accepted
  obtain ⟨used, isUsed, kind, isKind, d, isDirection, capture, isCapture, ⟨⟨⟨f1, f5⟩, allowed⟩, c1, c250⟩, -⟩ :=
    accepted
  have kindCode := valueIn_eq_some (by decide) isKind
  have directionCode := valueIn_eq_some (by decide) isDirection
  obtain ⟨drag, pinch, press⟩ := directionAllowed_codes allowed
  rw [← kindCode, ← directionCode] at drag pinch press
  exact ⟨usedByte_le isUsed, Nat.le_of_lt_succ (valueIn_lt isKind), f1, f5, drag, pinch, press, usedByte_le isCapture,
    c1, c250⟩

/-! ## The entries of a payload -/

/-- Cutting gives back the pieces, when each has the length of the cut. -/
theorem piecesOf_flatten {α : Type} {k : Nat} (positive : 0 < k) {pieces : List (List α)}
    (lengths : ∀ p ∈ pieces, p.length = k) (fuel : Nat) (enough : pieces.length ≤ fuel) :
    piecesOf k fuel pieces.flatten = pieces := by
  induction pieces generalizing fuel with
  | nil => cases fuel <;> rfl
  | cons p pieces ih =>
    have length := lengths p (by simp)
    obtain ⟨fuel, rfl⟩ : ∃ f, fuel = f + 1 := ⟨fuel - 1, by simp at enough; omega⟩
    obtain ⟨x, xs, rfl⟩ : ∃ x xs, p = x :: xs := List.exists_cons_of_ne_nil (by rintro rfl; simp at length; omega)
    have rest := ih (fun q mem => lengths q (by simp [mem])) fuel (by simpa using enough)
    rw [List.flatten_cons, List.cons_append, piecesOf.eq_3 _ _ _ (by simp), ← List.cons_append,
      List.take_left' length, List.drop_left' length, rest]

theorem length_le_length_flatten {α : Type} {k : Nat} (positive : 0 < k) {pieces : List (List α)}
    (lengths : ∀ p ∈ pieces, p.length = k) : pieces.length ≤ pieces.flatten.length := by
  rw [List.length_flatten, List.map_congr_left lengths, List.map_const', List.sum_replicate, smul_eq_mul]
  exact Nat.le_mul_of_pos_right _ positive

/-- The entries of a LOAD_TABLE are the pieces that follow its three operands (R188, R190). -/
theorem Request.entries_eq {t : TableId} {pieces : List (List Byte)} {a b c : Byte}
    (payload : r.payload = [a, b, c] ++ pieces.flatten) (lengths : ∀ p ∈ pieces, p.length = entrySize t) :
    r.entries t = pieces := by
  have positive : 0 < entrySize t := by cases t <;> decide
  have rest : r.entryBytes = pieces.flatten := by rw [Request.entryBytes, payload]; rfl
  rw [Request.entries, rest]
  exact piecesOf_flatten positive lengths _ (length_le_length_flatten positive lengths)

theorem Request.start_eq {a b : Byte} {start : Nat} {rest : List Byte} (small : start < 256)
    (payload : r.payload = [a, b, byteOf start] ++ rest) : r.start = start := by
  rw [Request.start, payload]
  exact byteOf_toNat small

theorem mapM_eq_none {α β : Type} {f : α → Option β} {xs : List α} {x : α} (mem : x ∈ xs) (refused : f x = none) :
    xs.mapM f = none := by
  induction xs with
  | nil => cases mem
  | cons y ys ih =>
    rw [List.mapM_cons]
    obtain rfl | mem := List.mem_cons.mp mem
    · simp [refused]
    · simp [ih mem]

theorem mapM_map_eq_some {α β : Type} {f : β → Option α} {g : α → β} {xs : List α}
    (back : ∀ x ∈ xs, f (g x) = some x) : (xs.map g).mapM f = some xs := by
  induction xs with
  | nil => rfl
  | cons x xs ih =>
    rw [List.map_cons, List.mapM_cons, back x (by simp), ih fun y mem => back y (by simp [mem])]
    rfl

/-! ## The five tables -/

/-- A load past the end of its table is refused whatever the entries hold (R178). -/
theorem State.runLoadTable_past {t : TableId} {entries : List (List Byte)} (named : r.table = some t)
    (cut : r.entries t = entries) (stopped : t = .lineMap → (s.surface r.surface).status = .stopped)
    (past : tableSize t < r.start + entries.length) : s.runLoadTable r = s.answer r .badIndex [] := by
  cases t with
  | lineMap =>
    simp only [State.runLoadTable, named, cut, State.loadLineMap]
    rw [if_neg (by simp [stopped]), if_pos (show 128 < _ from past)]
  | classTable =>
    simp only [State.runLoadTable, named, cut, State.loadClass]
    exact if_pos past
  | zone =>
    simp only [State.runLoadTable, named, cut, State.loadZone]
    exact if_pos past
  | gesture =>
    simp only [State.runLoadTable, named, cut, State.loadGesture]
    exact if_pos past
  | pressureCurve =>
    simp only [State.runLoadTable, named, cut, State.loadCurve]
    exact if_pos past

/-- What a table does not accept as an entry (R70, R76, R138, R147). -/
def TableId.refuses (t : TableId) (p : List Byte) : Prop :=
  match t with
  | .lineMap => False
  | .classTable => ClassEntry.ofBytes p = none
  | .zone => ZoneEntry.ofBytes p = none
  | .gesture => GestureEntry.ofBytes p = none
  | .pressureCurve => 4095 < word16At p 0

/-- One refused entry refuses the load (R178). -/
theorem State.runLoadTable_refuses {t : TableId} {entries : List (List Byte)} (named : r.table = some t)
    (cut : r.entries t = entries) (fits : r.start + entries.length ≤ tableSize t) {p : List Byte} (mem : p ∈ entries)
    (refused : t.refuses p) : s.runLoadTable r = s.answer r .badValue [] := by
  have inside : ¬ tableSize t < r.start + entries.length := by omega
  cases t with
  | lineMap => exact refused.elim
  | classTable =>
    simp only [State.runLoadTable, named, cut, State.loadClass, mapM_eq_none mem refused]
    exact if_neg inside
  | zone =>
    simp only [State.runLoadTable, named, cut, State.loadZone, mapM_eq_none mem refused]
    exact if_neg inside
  | gesture =>
    simp only [State.runLoadTable, named, cut, State.loadGesture, mapM_eq_none mem refused]
    exact if_neg inside
  | pressureCurve =>
    have high : ((entries.map fun e => ({ value := word16At e 0, loaded := true } : CurvePoint)).any
        fun p => 4095 < p.value) = true := by
      rw [List.any_map, List.any_eq_true]
      exact ⟨p, mem, decide_eq_true refused⟩
    simp only [State.runLoadTable, named, cut, State.loadCurve]
    rw [if_neg (show ¬ 9 < _ from inside), if_pos high]

/-- An entry size of R190 with the table it is of. -/
theorem exists_table_of_size {n size : Nat} (isSize : [2, 23, 14, 12, 2][n]? = some size) :
    ∃ t, valueIn tableOrder n = some t ∧ entrySize t = size ∧ [128, 16, 8, 16, 9].getD n 0 = tableSize t := by
  match n with
  | 0 => exact ⟨.lineMap, rfl, Option.some.inj isSize, rfl⟩
  | 1 => exact ⟨.classTable, rfl, Option.some.inj isSize, rfl⟩
  | 2 => exact ⟨.zone, rfl, Option.some.inj isSize, rfl⟩
  | 3 => exact ⟨.gesture, rfl, Option.some.inj isSize, rfl⟩
  | 4 => exact ⟨.pressureCurve, rfl, Option.some.inj isSize, rfl⟩
  | n + 5 => cases isSize

/-- A LOAD_TABLE that passes its checks has an entry (R190). -/
theorem Request.entryBytes_ne_nil {panel : Bool} (passes : requestCheck panel r = none) (load : r.code.toNat = 5) :
    r.entryBytes ≠ [] := by
  intro empty
  have content := requestCheck_contentCheck passes
  simp only [Request.contentCheck, load, empty] at content
  split at content
  · split at content
    · cases content
    · split at content <;> simp at content
  · contradiction

/-- Settles O52. -/
theorem loadTableWritesItsEntries : Obligations.LoadTableWritesItsEntries := by
  refine ⟨fun s r atHead isMap busy => ?running, fun s r code surf start pieces atHead free small => ?refused,
    fun s r start atHead free small => ?written⟩
  case running =>
    obtain ⟨-, -, ownCode, -⟩ := id atHead
    have named : r.table = some .lineMap := by rw [Request.table, isMap]; rfl
    have notDeferrable : r.deferrable ≠ true := by
      simp [Request.deferrable_iff, named, ownCode]
    have waitsNot := atHead.headWaits_of_unhindered ⟨fun rebase => by omega, fun defers => absurd defers notDeferrable⟩
    have runs : exec .loadTable s = .next (s.runLoadTable r) := atHead.run_next waitsNot _
    rw [runs, State.runLoadTable, named, State.loadLineMap]
    exact congrArg Host.Outcome.next (if_pos (bne_iff_ne.mpr busy))
  case refused =>
    intro stopped payload sizes places refused
    obtain ⟨-, -, ownCode, passes⟩ := id atHead
    have runs : exec .loadTable s = .next (s.runLoadTable r) :=
      atHead.run_next (atHead.headWaits_of_unhindered free) _
    have starts : r.start = start := Request.start_eq small payload
    obtain ⟨p0, mem0⟩ : ∃ p, p ∈ pieces := by
      refine List.exists_mem_of_ne_nil _ ?_
      rintro rfl
      exact Request.entryBytes_ne_nil passes ownCode (by rw [Request.entryBytes, payload]; rfl)
    obtain ⟨t, isTable, -, places_eq⟩ := exists_table_of_size (sizes p0 mem0)
    have lengths : ∀ p ∈ pieces, p.length = entrySize t := fun p mem => by
      obtain ⟨t', isTable', size, -⟩ := exists_table_of_size (sizes p mem)
      rw [← size, Option.some.inj (isTable.symm.trans isTable')]
    have cut : r.entries t = pieces := Request.entries_eq payload lengths
    have named : r.table = some t := by rw [Request.table, payload]; exact isTable
    have number : code.toNat = codeIn tableOrder t := valueIn_eq_some (by decide) isTable
    rw [runs]
    refine ⟨fun past => ?_, fun fits ⟨p, mem, bad⟩ => congrArg Host.Outcome.next ?_⟩
    · rw [State.runLoadTable_past named cut ?_ (by rw [starts, ← places_eq]; exact past)]
      rintro rfl
      exact stopped (BitVec.eq_of_toNat_eq number)
    · refine State.runLoadTable_refuses named cut (by rw [starts, ← places_eq]; exact fits) mem ?_
      simp only [refused] at bad
      obtain ⟨rfl, bad⟩ | ⟨rfl, bad⟩ | ⟨rfl, bad⟩ | ⟨rfl, bad⟩ := bad
      · obtain rfl : TableId.classTable = t := Option.some.inj isTable
        refine Option.eq_none_iff_forall_ne_some.mpr fun e accepted => ?_
        have := ClassEntry.ofBytes_accepts accepted
        omega
      · obtain rfl : TableId.zone = t := Option.some.inj isTable
        refine Option.eq_none_iff_forall_ne_some.mpr fun e accepted => ?_
        have := ZoneEntry.ofBytes_accepts accepted
        omega
      · obtain rfl : TableId.gesture = t := Option.some.inj isTable
        refine Option.eq_none_iff_forall_ne_some.mpr fun e accepted => ?_
        have := GestureEntry.ofBytes_accepts accepted
        omega
      · obtain rfl : TableId.pressureCurve = t := Option.some.inj isTable
        exact bad
  case written =>
    intro i v surf
    have runs : exec .loadTable s = .next (s.runLoadTable r) :=
      atHead.run_next (atHead.headWaits_of_unhindered free) _
    rw [runs]
    refine ⟨fun es _ valid stopped payload => ?lineMap, fun es _ valid payload => ?classTable,
      fun es _ valid payload => ?zone, fun es _ valid payload => ?gesture, fun values _ valid payload => ?curve⟩
    all_goals
      have starts : r.start = start := Request.start_eq small payload
      rw [List.flatMap_def] at payload
    case lineMap =>
      have named : r.table = some .lineMap := by rw [Request.table, payload]; rfl
      have cut : r.entries .lineMap = es.map LineEntry.bytes :=
        Request.entries_eq payload fun p mem => by obtain ⟨e, -, rfl⟩ := List.mem_map.mp mem; rfl
      have back : (es.map LineEntry.bytes).map LineEntry.ofBytes = es := by
        rw [List.map_map, List.map_congr_left (g := id) fun e mem => e.ofBytes_bytes (valid e mem), List.map_id]
      refine ⟨fun fits => ?_, fun past => ?_⟩
      · have stopped : (s.surface r.surface).status = .stopped := stopped
        simp only [State.runLoadTable, named, cut, State.loadLineMap, starts, back, List.length_map]
        rw [if_neg (by simp [stopped]), if_neg (by omega)]
        rfl
      · rw [State.runLoadTable_past named cut (fun _ => stopped) (by rw [starts, List.length_map]; exact past)]
    case classTable =>
      have named : r.table = some .classTable := by rw [Request.table, payload]; rfl
      have cut : r.entries .classTable = es.map ClassEntry.bytes :=
        Request.entries_eq payload fun p mem => by obtain ⟨e, -, rfl⟩ := List.mem_map.mp mem; rfl
      have back := mapM_map_eq_some fun e mem => ClassEntry.ofBytes_bytes e (valid e mem)
      refine ⟨fun fits => ?_, fun past => ?_⟩
      · simp only [State.runLoadTable, named, cut, State.loadClass, starts, back, List.length_map]
        rw [if_neg (by omega)]
        rfl
      · rw [State.runLoadTable_past named cut nofun (by rw [starts, List.length_map]; exact past)]
    case zone =>
      have named : r.table = some .zone := by rw [Request.table, payload]; rfl
      have cut : r.entries .zone = es.map ZoneEntry.bytes :=
        Request.entries_eq payload fun p mem => by obtain ⟨e, -, rfl⟩ := List.mem_map.mp mem; rfl
      have back := mapM_map_eq_some fun e mem => ZoneEntry.ofBytes_bytes e (valid e mem)
      refine ⟨fun fits => ?_, fun past => ?_⟩
      · simp only [State.runLoadTable, named, cut, State.loadZone, starts, back, List.length_map]
        rw [if_neg (by omega)]
        rfl
      · rw [State.runLoadTable_past named cut nofun (by rw [starts, List.length_map]; exact past)]
    case gesture =>
      have named : r.table = some .gesture := by rw [Request.table, payload]; rfl
      have cut : r.entries .gesture = es.map GestureEntry.bytes :=
        Request.entries_eq payload fun p mem => by obtain ⟨e, -, rfl⟩ := List.mem_map.mp mem; rfl
      have back := mapM_map_eq_some fun e mem => GestureEntry.ofBytes_bytes e (valid e mem)
      refine ⟨fun fits => ?_, fun past => ?_⟩
      · simp only [State.runLoadTable, named, cut, State.loadGesture, starts, back, List.length_map]
        rw [if_neg (by omega)]
        rfl
      · rw [State.runLoadTable_past named cut nofun (by rw [starts, List.length_map]; exact past)]
    case curve =>
      have named : r.table = some .pressureCurve := by rw [Request.table, payload]; rfl
      have integers : (do let a ← values; pure (a : Int)) = values.map fun (x : Nat) => (x : Int) :=
        List.flatMap_pure_eq_map _ _
      rw [integers, List.map_map] at payload
      have cut : r.entries .pressureCurve = values.map (fun (x : Nat) => le16 x) :=
        Request.entries_eq payload fun p mem => by obtain ⟨e, -, rfl⟩ := List.mem_map.mp mem; rfl
      have points : (values.map fun (x : Nat) => le16 x).map
          (fun e => ({ value := word16At e 0, loaded := true } : CurvePoint)) =
            values.map fun x => { value := x, loaded := true } := by
        rw [List.map_map]
        refine List.map_congr_left fun x mem => ?_
        have small : x < 65536 := by have := valid x mem; omega
        exact congrArg (fun n => ({ value := n, loaded := true } : CurvePoint)) (word16_le16_nat small)
      have low : ((values.map fun x => ({ value := x, loaded := true } : CurvePoint)).any
          fun p => 4095 < p.value) = false := by
        rw [List.any_map, List.any_eq_false]
        intro x mem
        simpa using valid x mem
      intro curve
      have written : writeFrom start (values.map fun x => ({ value := x, loaded := true } : CurvePoint)) s.curve =
          curve := by rw [writeFrom, List.length_map]
      refine ⟨fun fits rises => ?_, fun fits falls => ?_, fun past => ?_⟩
      · simp only [State.runLoadTable, named, cut, State.loadCurve, starts, points, low, written, List.length_map]
        rw [if_neg (by omega), if_neg (by decide), rises, if_neg (by decide)]
      · simp only [State.runLoadTable, named, cut, State.loadCurve, starts, points, low, written, List.length_map]
        rw [if_neg (by omega), if_neg (by decide), falls, if_pos rfl]
      · rw [State.runLoadTable_past named cut nofun (by rw [starts, List.length_map]; exact past)]

end Sys2Proof.Machine
end

section
/-! PROOFS. SET_PARAMS: blocks in range as they are written, values brought into range, and refusals (R177, R190). -/

namespace Sys2Proof.Machine

variable {s : State} {r : Request} {code : Nat}

/-! ## Bytes and blocks (R190) -/

theorem byteAt_lt (b : List Byte) (i : Nat) : byteAt b i < 256 := (b.getD i 0).isLt

theorem word16At_eq (b : List Byte) (i : Nat) : word16At b i = byteAt b i + 256 * byteAt b (i + 1) := rfl

theorem word16At_lt (b : List Byte) (i : Nat) : word16At b i < 65536 := by
  have := byteAt_lt b i
  have := byteAt_lt b (i + 1)
  rw [word16At_eq]
  omega

theorem byteOf_byteAt (b : List Byte) (i : Nat) : byteOf (byteAt b i) = b.getD i 0 :=
  (BitVec.ofNat_toNat 8 _).trans (BitVec.setWidth_eq _)

theorem le16_word16At (b : List Byte) (i : Nat) : le16 (word16At b i : Nat) = [b.getD i 0, b.getD (i + 1) 0] :=
  le16_word16 _ _

theorem enumByte_of_valueIn {α : Type} [DecidableEq α] {order : List α} {b : List Byte} {i : Nat} {a : α}
    (nodup : order.Nodup) (named : valueIn order (byteAt b i) = some a) : enumByte order a = b.getD i 0 := by
  rw [enumByte, ← valueIn_eq_some nodup named, byteOf_byteAt]

theorem getD_range_eq {b : List Byte} {n : Nat} (length : b.length = n) :
    (List.range n).map (fun i => b.getD i 0) = b := by
  apply List.ext_getElem
  · simp [length]
  · intro i h1 h2
    simp [List.getD_eq_getElem?_getD, List.getElem?_eq_getElem h2]

/-- The bytes of a DETECTION block as sent are the bytes sent (R190). -/
theorem Detection.bytes_ofBytes {b : List Byte} (length : b.length = 17) : (Detection.ofBytes b).bytes = b := by
  rw [Detection.bytes, Detection.ofBytes]
  simp only [le16_word16At, byteOf_byteAt]
  exact getD_range_eq length

theorem PadRejection.bytes_ofBytes {b : List Byte} (length : b.length = 5) : (PadRejection.ofBytes b).bytes = b := by
  rw [PadRejection.bytes, PadRejection.ofBytes]
  simp only [le16_word16At, byteOf_byteAt]
  exact getD_range_eq length

theorem PenBlock.bytes_ofBytes {b : List Byte} (length : b.length = 3) : (PenBlock.ofBytes b).bytes = b := by
  rw [PenBlock.bytes, PenBlock.ofBytes]
  simp only [le16_word16At, byteOf_byteAt]
  exact getD_range_eq length

/-- The answer of R177: CLAMPED exactly when what is written is not what was sent. -/
theorem clampedCode_eq_of_iff {α : Type} [DecidableEq α] {clamped sent : α} {asSent : Bool}
    (same_iff : clamped = sent ↔ asSent = true) :
    clampedCode (clamped != sent) = if asSent then .ok else .clamped := by
  by_cases same : clamped = sent
  · simp [clampedCode, same, same_iff.mp same]
  · simp [clampedCode, same, Bool.eq_false_iff.mpr fun yes => same (same_iff.mpr yes)]

theorem clampedCode_of_bytes {α : Type} [DecidableEq α] {clamped sent : α} {bytes : α → List Byte}
    {ofBytes : List Byte → α} {b : List Byte} (sentBytes : bytes sent = b) (sent_eq : ofBytes b = sent)
    (back : ofBytes (bytes clamped) = clamped) :
    clampedCode (clamped != sent) = if bytes clamped == b then .ok else .clamped := by
  refine clampedCode_eq_of_iff (beq_iff_eq.trans ?_).symm
  exact ⟨fun equal => by rw [← back, equal, sent_eq], fun same => by rw [same, sentBytes]⟩

/-- The length of a block's bytes, once the checks have passed (R175, R190). -/
theorem Request.blockBytes_length {panel : Bool} {b : BlockId} (passes : requestCheck panel r = none)
    (set : r.code.toNat = 7) (named : r.block = some b) : r.blockBytes.length = blockLength b r.surface := by
  have content := requestCheck_contentCheck passes
  simp only [Request.contentCheck, set, named] at content
  by_contra differs
  split at content
  · contradiction
  · split at content
    · split at content
      · cases content
      · rw [if_pos (bne_iff_ne.mpr differs)] at content
        cases content
    · contradiction

/-! ## Values brought into range (R177) -/

theorem clampNat_range {lo hi : Nat} (order : lo ≤ hi) (v : Nat) : lo ≤ clampNat lo hi v ∧ clampNat lo hi v ≤ hi := by
  unfold clampNat
  omega

theorem Detection.clamped_inRange (d : Detection) : d.clamped.InRange := by
  simp only [Detection.InRange, Detection.clamped, clampNat]
  omega

theorem Detection.clampedCode_eq {b : List Byte} (length : b.length = 17) :
    clampedCode ((Detection.ofBytes b).clamped != Detection.ofBytes b) =
      if (Detection.ofBytes b).clamped.bytes == b then .ok else .clamped :=
  clampedCode_of_bytes (Detection.bytes_ofBytes length) rfl
    (Detection.ofBytes_bytes _ (Detection.clamped_inRange _))

theorem PadRejection.clampedCode_eq {b : List Byte} (length : b.length = 5) :
    clampedCode ((PadRejection.ofBytes b).clamped != PadRejection.ofBytes b) =
      if (PadRejection.ofBytes b).clamped.bytes == b then .ok else .clamped := by
  refine clampedCode_of_bytes (PadRejection.bytes_ofBytes length) rfl (PadRejection.ofBytes_bytes _ ?_ ?_ ?_)
  all_goals
    simp only [PadRejection.clamped, clampNat]
    omega

theorem PenBlock.clampedCode_eq {b : List Byte} (length : b.length = 3) :
    clampedCode ((PenBlock.ofBytes b).clamped != PenBlock.ofBytes b) =
      if (PenBlock.ofBytes b).clamped.bytes == b then .ok else .clamped := by
  refine clampedCode_of_bytes (PenBlock.bytes_ofBytes length) rfl (PenBlock.ofBytes_bytes _ ?_ ?_)
  all_goals
    simp only [PenBlock.clamped, clampNat]
    omega

/-- What PANEL's REJECTION takes from its bytes, with its enumerations read (R122, R190). -/
theorem PanelRejection.ofBytes_eq {b : List Byte} {penMode : PenMode} {hand : Handedness}
    (isMode : valueIn penModeOrder (byteAt b 0) = some penMode)
    (isHand : valueIn handednessOrder (byteAt b 1) = some hand) : PanelRejection.ofBytes b =
      some { penMode := penMode, handedness := hand, ahead := word16At b 2, back := word16At b 4,
             above := word16At b 6, below := word16At b 8, linger := word16At b 10, shadowRadius := byteAt b 12 } := by
  simp [PanelRejection.ofBytes, isMode, isHand]

theorem PanelRejection.clampedCode_eq {b : List Byte} (length : b.length = 13) {sent : PanelRejection}
    (isSent : PanelRejection.ofBytes b = some sent) :
    clampedCode (sent.clamped != sent) = if sent.clamped.bytes == b then .ok else .clamped := by
  obtain ⟨penMode, isMode⟩ : ∃ m, valueIn penModeOrder (byteAt b 0) = some m := by
    by_contra unknown
    simp [PanelRejection.ofBytes, Option.eq_none_iff_forall_ne_some.mpr fun m is => unknown ⟨m, is⟩] at isSent
  obtain ⟨hand, isHand⟩ : ∃ m, valueIn handednessOrder (byteAt b 1) = some m := by
    by_contra unknown
    simp [PanelRejection.ofBytes, isMode, Option.eq_none_iff_forall_ne_some.mpr fun m is => unknown ⟨m, is⟩] at isSent
  have sent_eq := Option.some.inj (isSent.symm.trans (PanelRejection.ofBytes_eq isMode isHand))
  have bytes : sent.bytes = b := by
    rw [sent_eq, PanelRejection.bytes]
    simp only [le16_word16At, byteOf_byteAt, enumByte_of_valueIn (by decide) isMode,
      enumByte_of_valueIn (by decide) isHand]
    exact getD_range_eq length
  have back : PanelRejection.ofBytes sent.clamped.bytes = some sent.clamped := by
    apply PanelRejection.ofBytes_bytes
    all_goals
      simp only [PanelRejection.clamped, clampNat]
      omega
  refine clampedCode_eq_of_iff (beq_iff_eq.trans ⟨fun equal => ?_, fun same => by rw [same, bytes]⟩).symm
  rw [equal, isSent] at back
  exact (Option.some.inj back).symm

/-- An answer asserts the attention line anew (R173). -/
theorem State.answer_refreshAttn (rc : ResponseCode) (data : List Byte) :
    (State.refreshAttn s).answer r rc data = s.answer r rc data := by
  rw [State.answer, State.answer, State.popHead_respond_eq, State.popHead_respond_eq]
  rfl

theorem Geometry.ofBytes_accepts {b : List Byte} {g : Geometry} (accepted : Geometry.ofBytes b = some g) :
    1 ≤ byteAt b 0 ∧ byteAt b 0 ≤ 72 ∧ 1 ≤ byteAt b 1 ∧ byteAt b 1 ≤ 56 ∧ 4 ≤ byteAt b 2 ∧ byteAt b 2 ≤ 64 ∧
      4 ≤ byteAt b 3 ∧ byteAt b 3 ≤ 48 ∧ byteAt b 4 ≤ 1 ∧ byteAt b 5 ≤ 1 := by
  simp only [Geometry.ofBytes, Option.bind_eq_bind, Option.bind_eq_some_iff, Option.ite_none_right_eq_some,
    Bool.and_eq_true, within, decide_eq_true_eq] at accepted
  obtain ⟨_, polarity, _, format, ⟨⟨⟨⟨d1, d72⟩, s1, s56⟩, l4, l64⟩, n4, n48⟩, -⟩ := accepted
  exact ⟨d1, d72, s1, s56, l4, l64, n4, n48, Nat.le_of_lt_succ (valueIn_lt polarity), Nat.le_of_lt_succ (valueIn_lt format)⟩

/-- An unknown mode, or one but CONTACTS for PANEL, is refused (R177). -/
theorem Reporting.ofBytes_eq_none {i : SurfaceId} {b : List Byte}
    (unknown : 2 < byteAt b 6 ∨ (i = .panel ∧ byteAt b 6 ≠ 0)) : Reporting.ofBytes i b = none := by
  refine Option.eq_none_iff_forall_ne_some.mpr fun sent accepted => ?_
  simp only [Reporting.ofBytes, Option.bind_eq_bind, Option.bind_eq_some_iff, Option.ite_none_right_eq_some]
    at accepted
  obtain ⟨mode, isMode, allowed, -⟩ := accepted
  obtain tooLarge | ⟨rfl, notContacts⟩ := unknown
  · have := valueIn_lt isMode
    simp only [reportModeOrder, List.length_cons, List.length_nil] at this
    omega
  · rw [valueIn_eq_some (by decide) isMode] at notContacts
    cases mode with
    | contacts => exact notContacts rfl
    | gestures => cases allowed
    | both => cases allowed

/-- REPORTING as its bytes give it, clamped, and whether clamping changed it (R177, notes/assumptions/9.md). -/
theorem Reporting.ofBytes_clamped {i : SurfaceId} {b : List Byte} {mode : ReportMode}
    (isMode : valueIn reportModeOrder (byteAt b 6) = some mode) (panel : i = .panel → mode = .contacts) :
    ∃ sent, Reporting.ofBytes i b = some sent ∧
      sent.clamped i = { lx := clampNat 255 32767 (word16At b 0), ly := clampNat 255 32767 (word16At b 2),
                         swap := (b.getD 4 0).getLsbD 0, invertX := (b.getD 4 0).getLsbD 1,
                         invertY := (b.getD 4 0).getLsbD 2, mask := (b.getD 5 0).setWidth 5, mode := mode,
                         settleFrames := if i = .pad then clampNat 1 8 (byteAt b 7) else byteAt b 7 } ∧
      clampedCode (sent.clamped i != sent) =
        if (sent.clamped i).lx == word16At b 0 && (sent.clamped i).ly == word16At b 2 &&
          (sent.clamped i).settleFrames == byteAt b 7 then .ok else .clamped := by
  have allowed := modeAllowed_of_contacts panel
  have mask (x : Byte) : x.extractLsb' 0 5 = x.setWidth 5 := by
    revert x
    decide
  have read : Reporting.ofBytes i b = some
      { lx := word16At b 0, ly := word16At b 2, swap := (b.getD 4 0).getLsbD 0, invertX := (b.getD 4 0).getLsbD 1,
        invertY := (b.getD 4 0).getLsbD 2, mask := (b.getD 5 0).setWidth 5, mode := mode,
        settleFrames := byteAt b 7 } := by
    simp only [Reporting.ofBytes, isMode, Option.bind_eq_bind, Option.bind_some, allowed, if_true, mask]
  refine ⟨_, read, ?_, clampedCode_eq_of_iff ?_⟩
  · simp [Reporting.clamped]
  · simp [Reporting.clamped, and_assoc]

theorem PanelRejection.ofBytes_eq_none {b : List Byte} (unknown : 2 < byteAt b 0 ∨ 1 < byteAt b 1) :
    PanelRejection.ofBytes b = none := by
  refine Option.eq_none_iff_forall_ne_some.mpr fun sent accepted => ?_
  simp only [PanelRejection.ofBytes, Option.bind_eq_bind, Option.bind_eq_some_iff] at accepted
  obtain ⟨_, isMode, _, isHand, -⟩ := accepted
  have mode := valueIn_lt isMode
  have hand := valueIn_lt isHand
  simp only [penModeOrder, handednessOrder, List.length_cons, List.length_nil] at mode hand
  omega

/-- QUEUE as its bytes give it, clamped: a byte is in max_delay's range (R177). -/
theorem QueueBlock.ofBytes_clamped (b : List Byte) :
    (QueueBlock.ofBytes b).clamped = { attentionThreshold := clampNat 1 59 (byteAt b 0),
                                       almostFull := clampNat 8 59 (byteAt b 1), maxDelay := byteAt b 2
                                       captureMask := BitVec.ofNat 12 (word16At b 3) } ∧
    clampedCode ((QueueBlock.ofBytes b).clamped != QueueBlock.ofBytes b) =
      if (QueueBlock.ofBytes b).clamped.attentionThreshold == byteAt b 0 &&
        (QueueBlock.ofBytes b).clamped.almostFull == byteAt b 1 then .ok else .clamped := by
  have delay := clampNat_of_within (Nat.zero_le _) (Nat.le_of_lt_succ (byteAt_lt b 2))
  have clamped : (QueueBlock.ofBytes b).clamped =
      { attentionThreshold := clampNat 1 59 (byteAt b 0), almostFull := clampNat 8 59 (byteAt b 1),
        maxDelay := byteAt b 2, captureMask := BitVec.ofNat 12 (word16At b 3) } := by
    simp only [QueueBlock.clamped, QueueBlock.ofBytes, delay]
  refine ⟨clamped, ?_⟩
  rw [clamped]
  refine clampedCode_eq_of_iff ?_
  simp [QueueBlock.ofBytes]

/-- Settles O53. -/
theorem setParamsWritesTheBlock : Obligations.SetParamsWritesTheBlock := by
  intro s r atHead free i v surf
  obtain ⟨-, -, ownCode, passes⟩ := id atHead
  have runs : exec .setParams s = .next (s.runSetParams r) :=
    atHead.run_next (atHead.headWaits_of_unhindered free) _
  refine ⟨?geometry, ?detection, ?running, ?reporting, ?padRejection, ?panelRejection, ?pen, ?queue, ?general⟩
  case geometry =>
    intro g stopped d1 d72 s1 s56 l4 l64 n4 n48 payload
    rw [runs]
    have block : r.block = some .geometry := by rw [Request.block, payload]; rfl
    have bytes : r.blockBytes = g.bytes := by rw [Request.blockBytes, payload]; rfl
    have stopped : (s.surface r.surface).status = .stopped := stopped
    have back : Geometry.ofBytes g.bytes = some g := by
      apply Geometry.ofBytes_bytes
      all_goals simp [within]; omega
    simp only [State.runSetParams, block, State.setGeometry, bytes, back]
    rw [if_neg (by simp [stopped])]
    rfl
  case detection =>
    intro d stopped inRange payload
    have block : r.block = some .detection := by rw [Request.block, payload]; rfl
    have bytes : r.blockBytes = d.bytes := by rw [Request.blockBytes, payload]; rfl
    have stopped : (s.surface r.surface).status = .stopped := stopped
    simp only [runs, State.runSetParams, block, State.setDetection, bytes, Detection.ofBytes_bytes d inRange,
      Detection.clamped_of_inRange d inRange]
    rw [if_neg (by simp [stopped])]
    refine ⟨fun below => ?_, fun above => ?_⟩
    · rw [if_neg (by omega), bne_self_eq_false]
      rfl
    · rw [if_pos above]
  case running =>
    rintro running (block | block)
    · simp only [runs, State.runSetParams, block, State.setGeometry]
      rw [if_pos (bne_iff_ne.mpr running)]
    · simp only [runs, State.runSetParams, block, State.setDetection]
      rw [if_pos (bne_iff_ne.mpr running)]
  case reporting =>
    intro rep x0 x1 y0 y1 f1 f8 panel payload written
    rw [runs]
    have block : r.block = some .reporting := by rw [Request.block, payload]; rfl
    have bytes : r.blockBytes = rep.bytes := by rw [Request.blockBytes, payload]; rfl
    have back := Reporting.ofBytes_bytes i rep (by omega) (by omega) (by omega) (modeAllowed_of_contacts panel)
    have kept : rep.clamped i = rep := by
      simp only [Reporting.clamped, clampNat_of_within x0 x1, clampNat_of_within y0 y1, clampNat_of_within f1 f8,
        ite_self]
    have cancels : (i == .pad && v.reporting.hasGestures && !rep.hasGestures) = true ↔
        i = .pad ∧ v.reporting.mode ≠ .contacts ∧ rep.mode = .contacts := by
      simp [Reporting.hasGestures, and_assoc]
    have read : Reporting.ofBytes r.surface rep.bytes = some rep := back
    simp only [State.runSetParams, block, State.setReporting, bytes, read]
    change Host.Outcome.next ((if (i == .pad && v.reporting.hasGestures && !(rep.clamped i).hasGestures) = true then
      (s.withSurface i { v with reporting := rep.clamped i, reportingReady := true }).cancelOutside else _).answer r
        (clampedCode (rep.clamped i != rep)) []) = _
    rw [kept, bne_self_eq_false, if_congr cancels rfl rfl]
    rfl
  case padRejection =>
    intro b isPad guard travel f1 f255 payload
    rw [runs]
    have block : r.block = some .rejection := by rw [Request.block, payload]; rfl
    have bytes : r.blockBytes = b.bytes := by rw [Request.blockBytes, payload]; rfl
    have back := PadRejection.ofBytes_bytes b (by omega) (by omega) (by omega)
    have kept : b.clamped = b := by
      simp only [PadRejection.clamped, clampNat_of_within (Nat.zero_le _) guard,
        clampNat_of_within (Nat.zero_le _) travel, clampNat_of_within f1 f255]
    simp only [State.runSetParams, block, show r.surface = .pad from isPad, State.setPadRejection, bytes, back, kept,
      bne_self_eq_false, beq_iff_eq]
    rfl
  case panelRejection =>
    intro b isPanel ahead back above below linger radius payload
    rw [runs]
    have block : r.block = some .rejection := by rw [Request.block, payload]; rfl
    have bytes : r.blockBytes = b.bytes := by rw [Request.blockBytes, payload]; rfl
    have read := PanelRejection.ofBytes_bytes b (by omega) (by omega) (by omega) (by omega) (by omega) (by omega)
    have kept : b.clamped = b := by
      simp only [PanelRejection.clamped, clampNat_of_within (Nat.zero_le _) ahead,
        clampNat_of_within (Nat.zero_le _) back, clampNat_of_within (Nat.zero_le _) above,
        clampNat_of_within (Nat.zero_le _) below, clampNat_of_within (Nat.zero_le _) linger,
        clampNat_of_within (Nat.zero_le _) radius]
    simp only [State.runSetParams, block, show r.surface = .panel from isPanel, State.setPanelRejection, bytes, read,
      kept, bne_self_eq_false]
    rfl
  case pen =>
    intro b h1 h4095 hold payload
    rw [runs]
    have block : r.block = some .pen := by rw [Request.block, payload]; rfl
    have bytes : r.blockBytes = b.bytes := by rw [Request.blockBytes, payload]; rfl
    have back := PenBlock.ofBytes_bytes b (by omega) (by omega)
    have kept : b.clamped = b := by
      simp only [PenBlock.clamped, clampNat_of_within h1 h4095, clampNat_of_within (Nat.zero_le _) hold]
    simp only [State.runSetParams, block, State.setPen, bytes, back, kept, bne_self_eq_false]
    rfl
  case queue =>
    intro b any a1 a59 f8 f59 delay payload
    rw [runs]
    have block : r.block = some .queue := by rw [Request.block, payload]; rfl
    have bytes : r.blockBytes = b.bytes := by rw [Request.blockBytes, payload]; rfl
    have back := QueueBlock.ofBytes_bytes b (by omega) (by omega) (by omega)
    have kept : b.clamped = b := by
      simp only [QueueBlock.clamped, clampNat_of_within a1 a59, clampNat_of_within f8 f59,
        clampNat_of_within (Nat.zero_le _) delay]
    simp only [State.runSetParams, block, State.setQueue, bytes, back, kept, bne_self_eq_false, State.answer_refreshAttn]
    rfl
  case general =>
    intro b near word answer
    refine ⟨?geometry', ?detection', ?reporting', ?padRejection', ?panelRejection', ?pen', ?queue'⟩
    case geometry' =>
      intro block stopped outside
      have stopped : (s.surface r.surface).status = .stopped := stopped
      have refused : Geometry.ofBytes r.blockBytes = none := by
        refine Option.eq_none_iff_forall_ne_some.mpr fun g accepted => ?_
        obtain ⟨d1, d72, s1, s56, l4, l64, n4, n48, polarity, format⟩ := Geometry.ofBytes_accepts accepted
        simp only [b] at outside
        omega
      simp only [runs, State.runSetParams, block, State.setGeometry, refused]
      rw [if_neg (by simp [stopped])]
    case detection' =>
      intro block stopped d
      have length : b.length = 17 := Request.blockBytes_length passes ownCode block
      have stopped : (s.surface r.surface).status = .stopped := stopped
      have d_eq : (Detection.ofBytes b).clamped = d := rfl
      have code := Detection.clampedCode_eq length
      rw [d_eq] at code
      have whole : s.runSetParams r = if d.touchThreshold ≤ d.noiseFloor then s.answer r .badValue [] else
          (s.withSurface i { v with detection := d, detectionReady := true }).answer r (answer (d.bytes == b)) [] := by
        simp only [State.runSetParams, block, State.setDetection]
        rw [if_neg (by simp [stopped])]
        change (if d.touchThreshold ≤ d.noiseFloor then _ else State.answer _ r (clampedCode (d != _)) []) = _
        rw [code]
        rfl
      rw [runs, whole]
      exact ⟨fun above => by rw [if_pos above], fun below => by rw [if_neg (by omega)]⟩
    case reporting' =>
      intro block
      refine ⟨fun unknown => ?_, ?_⟩
      · have refused : Reporting.ofBytes r.surface r.blockBytes = none :=
          Reporting.ofBytes_eq_none (unknown.imp_right fun ⟨isPanel, mode⟩ => ⟨isPanel, mode⟩)
        simp only [runs, State.runSetParams, block, State.setReporting, refused]
      · intro mode isMode panel rep written
        obtain ⟨sent, read, clamped, same⟩ := Reporting.ofBytes_clamped (b := b) (i := i) isMode panel
        have read : Reporting.ofBytes r.surface r.blockBytes = some sent := read
        have clamped : sent.clamped i = rep := clamped
        have cancels : (i == .pad && v.reporting.hasGestures && !rep.hasGestures) = true ↔
            i = .pad ∧ v.reporting.mode ≠ .contacts ∧ mode = .contacts := by
          simp [Reporting.hasGestures, and_assoc, rep]
        simp only [runs, State.runSetParams, block, State.setReporting, read]
        change Host.Outcome.next
          ((if (i == .pad && v.reporting.hasGestures && !(sent.clamped i).hasGestures) = true then
            (s.withSurface i { v with reporting := sent.clamped i, reportingReady := true }).cancelOutside
            else _).answer r (clampedCode (sent.clamped i != sent)) []) = _
        rw [same, clamped, if_congr cancels rfl rfl]
        rfl
    case padRejection' =>
      intro block isPad d
      have length : b.length = 5 := by
        have := Request.blockBytes_length passes ownCode block
        rwa [show r.surface = .pad from isPad] at this
      have code := PadRejection.clampedCode_eq length
      have d_eq : (PadRejection.ofBytes b).clamped = d := rfl
      rw [d_eq] at code
      rw [runs]
      simp only [State.runSetParams, block, show r.surface = .pad from isPad, State.setPadRejection, beq_iff_eq]
      change Host.Outcome.next (State.answer _ r (clampedCode (d != _)) []) = _
      rw [code]
      rfl
    case panelRejection' =>
      intro block isPanel
      have length : b.length = 13 := by
        have := Request.blockBytes_length passes ownCode block
        rwa [show r.surface = .panel from isPanel] at this
      refine ⟨fun unknown => ?_, ?_⟩
      · have refused : PanelRejection.ofBytes r.blockBytes = none := PanelRejection.ofBytes_eq_none unknown
        simp only [runs, State.runSetParams, block, show r.surface = .panel from isPanel, State.setPanelRejection,
          refused]
      · intro penMode hand isMode isHand d
        have read : PanelRejection.ofBytes r.blockBytes = some _ := PanelRejection.ofBytes_eq isMode isHand
        have radius := clampNat_of_within (Nat.zero_le _) (Nat.le_of_lt_succ (byteAt_lt b 12))
        have clamped : PanelRejection.clamped
            { penMode := penMode, handedness := hand, ahead := word16At b 2, back := word16At b 4,
              above := word16At b 6, below := word16At b 8, linger := word16At b 10,
              shadowRadius := byteAt b 12 } = d := by
          rw [PanelRejection.clamped, radius]
          rfl
        have code := PanelRejection.clampedCode_eq length read
        rw [clamped] at code
        simp only [runs, State.runSetParams, block, show r.surface = .panel from isPanel, State.setPanelRejection,
          read]
        change Host.Outcome.next (State.answer
          { s with panelRejection := PanelRejection.clamped _, panelRejectionReady := true } r
          (clampedCode (PanelRejection.clamped _ != _)) []) = _
        rw [clamped, code]
    case pen' =>
      intro block d
      have code := PenBlock.clampedCode_eq (Request.blockBytes_length passes ownCode block)
      have d_eq : (PenBlock.ofBytes b).clamped = d := rfl
      rw [d_eq] at code
      rw [runs]
      simp only [State.runSetParams, block, State.setPen]
      change Host.Outcome.next (State.answer _ r (clampedCode (d != _)) []) = _
      rw [code]
      rfl
    case queue' =>
      intro block d
      obtain ⟨clamped, code⟩ := QueueBlock.ofBytes_clamped b
      have clamped : (QueueBlock.ofBytes b).clamped = d := clamped
      rw [clamped] at code
      simp only [runs, State.runSetParams, block, State.setQueue]
      change Host.Outcome.next ((State.refreshAttn { s with queueBlock := (QueueBlock.ofBytes b).clamped }).answer r
        (clampedCode ((QueueBlock.ofBytes b).clamped != QueueBlock.ofBytes b)) []) = _
      rw [clamped, code, State.answer_refreshAttn]

end Sys2Proof.Machine
end

section
/-! PROOFS. READ_TABLE, READ_PARAMS and READ_STATUS return what is held (R177, R178, R180, R187, R189). -/

namespace Sys2Proof.Machine

variable {s : State} {r : Request} {code : Nat}

/-! ## READ_TABLE (R178) -/

theorem mem_tableOrder (t : TableId) : t ∈ tableOrder := by cases t <;> decide

theorem mem_blockOrder (b : BlockId) : b ∈ blockOrder := by cases b <;> decide

theorem byteOf_toNat_self (b : Byte) : byteOf b.toNat = b := (BitVec.ofNat_toNat 8 b).trans (BitVec.setWidth_eq b)

/-- The loaded marks of points from a place on, one bit each (R189). -/
theorem testBit_loadedMarks (points : List CurvePoint) (place : Nat) {sum : Nat} (below : sum < 2 ^ place) (k : Nat) :
    ((points.zipIdx place).foldl (fun m (p, k) => m + (if p.loaded then 2 ^ k else 0)) sum).testBit k =
      if k < place then sum.testBit k else (points[k - place]?.map (·.loaded)).getD false := by
  induction points generalizing place sum with
  | nil =>
    by_cases early : k < place
    · simp [early]
    · have high : sum.testBit k = false :=
        Nat.testBit_lt_two_pow (below.trans_le (Nat.pow_le_pow_right (by decide) (by omega)))
      simp [early, high]
  | cons p points ih =>
    have below' : sum + (if p.loaded then 2 ^ place else 0) < 2 ^ (place + 1) := by
      have := Nat.two_pow_succ place
      split <;> omega
    rw [List.zipIdx_cons, List.foldl_cons, ih (place + 1) below']
    obtain early | rfl | late : k < place ∨ k = place ∨ place < k := by omega
    · have kept : (sum + if p.loaded then 2 ^ place else 0).testBit k = sum.testBit k := by
        split
        · rw [Nat.add_comm, Nat.testBit_two_pow_add_gt early]
        · rfl
      rw [if_pos (by omega), if_pos early, kept]
    · have clear : sum.testBit k = false := Nat.testBit_lt_two_pow below
      have own : (sum + if p.loaded then 2 ^ k else 0).testBit k = p.loaded := by
        cases marked : p.loaded
        · simpa using clear
        · rw [if_pos rfl, Nat.add_comm, Nat.testBit_two_pow_add_eq, clear]
          rfl
      simp [own]
    · have shift : k - place = k - (place + 1) + 1 := by omega
      rw [if_neg (by omega), if_neg (by omega), shift, List.getElem?_cons_succ]

/-- The two bytes of a number below 2^16 hold its bits. -/
theorem le16_bits (n : Nat) : ∃ lo hi : Byte, le16 (n : Int) = [lo, hi] ∧
    ∀ k, k < 16 → (hi ++ lo).getLsbD k = n.testBit k := by
  have bit (k : Nat) (small : k < 16) : (BitVec.ofNat 16 n).getLsbD k = n.testBit k := by
    rw [BitVec.getLsbD_ofNat]
    simp [small]
  refine ⟨_, _, rfl, fun k small => ?_⟩
  rw [BitVec.ofInt_natCast, BitVec.getLsbD_append]
  split
  next low => simp [low, bit k small]
  next high =>
    have place : 8 + (k - 8) = k := by omega
    simp [place, bit k small, show k - 8 < 8 by omega]

/-- READ_TABLE's data for a table it has (R178, R189). -/
theorem State.tableData_eq (t : TableId) (i : SurfaceId) (start count : Byte) {surf : Byte}
    (isSurf : enumByte surfaceOrder i = surf) :
    ∃ marks : List Byte, (t ≠ .pressureCurve → marks = []) ∧
      (t = .pressureCurve → ∃ lo hi : Byte, marks = [lo, hi] ∧ ∀ k, k < 16 →
        (hi ++ lo).getLsbD k = (s.curve[k]?.map (·.loaded)).getD false) ∧
      s.tableData t i start.toNat count.toNat =
        [enumByte tableOrder t, surf, start, count, (if s.tableMark t i then 1 else 0)] ++ marks
          ++ (((s.tableEntries t i).drop start.toNat).take count.toNat).flatten := by
  by_cases curve : t = .pressureCurve
  · obtain ⟨lo, hi, bytes, bits⟩ :=
      le16_bits ((s.curve.zipIdx).foldl (fun m (p, k) => m + (if p.loaded then 2 ^ k else 0)) 0)
    refine ⟨[lo, hi], fun other => absurd curve other, fun _ => ⟨lo, hi, rfl, fun k small => ?_⟩, ?_⟩
    · rw [bits k small, testBit_loadedMarks _ 0 (by decide)]
      simp
    · simp only [State.tableData, isSurf, byteOf_toNat_self, flagByte_single]
      rw [if_pos (beq_iff_eq.mpr curve), bytes]
  · refine ⟨[], fun _ => rfl, fun own => absurd own curve, ?_⟩
    simp only [State.tableData, isSurf, byteOf_toNat_self, flagByte_single]
    rw [if_neg (show ¬ (t == TableId.pressureCurve) = true by simpa using curve)]

theorem State.AtHead.table_surface (atHead : s.AtHead r 6) {a surf start count : Byte}
    (payload : r.payload = [a, surf, start, count]) : enumByte surfaceOrder r.surface = surf := by
  obtain ⟨-, -, ownCode, passes⟩ := atHead
  exact enumByte_surface passes (by simp [Request.surfaceByte, ownCode, payload, byteAt])

/-- The flag byte of R187, bit by bit. -/
theorem flagByte_eight : ∀ a b c d e f g h : Bool, flagByte [a, b, c, d, e, f, g, h] =
    byteOf ((if a then 2 ^ 0 else 0) + (if b then 2 ^ 1 else 0) + (if c then 2 ^ 2 else 0) + (if d then 2 ^ 3 else 0)
      + (if e then 2 ^ 4 else 0) + (if f then 2 ^ 5 else 0) + (if g then 2 ^ 6 else 0) + (if h then 2 ^ 7 else 0)) := by
  decide

theorem flagByte_four : ∀ a b c d : Bool, flagByte [a, b, c, d] =
    byteOf ((if a then 2 ^ 0 else 0) + (if b then 2 ^ 1 else 0) + (if c then 2 ^ 2 else 0)
      + (if d then 2 ^ 3 else 0)) := by
  decide

theorem flagByte_three : ∀ a b c : Bool, flagByte [a, b, c] =
    byteOf ((if a then 2 ^ 0 else 0) + (if b then 2 ^ 1 else 0) + (if c then 2 ^ 2 else 0)) := by
  decide

theorem flagByte_one : ∀ a : Bool, flagByte [a] = byteOf (if a then 2 ^ 0 else 0) := by decide

theorem State.blockData_rejection (s : State) (i : SurfaceId) :
    s.blockData .rejection i = if i = .pad then s.padRejection.bytes else s.panelRejection.bytes := by
  cases i <;> rfl

theorem State.rejectionReady_eq (s : State) (i : SurfaceId) :
    s.rejectionReady i = if i = .pad then s.padRejectionReady else s.panelRejectionReady := by
  cases i <;> rfl

/-- The committed gesture's field, or its absence (R187). -/
theorem committedStatus_eq (c : Option Committed) : committedStatus c = match c with
    | some c => [enumByte gestureKindOrder c.kind, byteOf c.code] ++ le16 c.x ++ le16 c.y ++ le16 c.spread
    | none => [255, 0, 0, 0, 0, 0, 0, 0] := by
  cases c <;> rfl

theorem pendingEndStatus_eq (e : Option PendingEnd) : pendingEndStatus e = match e with
    | some e => [byteOf e.number, enumByte endReasonOrder e.reason]
    | none => [0, 255] := by
  cases e <;> rfl

theorem faultStatus_eq (f : Option FaultRecord) : faultStatus f = match f with
    | some f => [enumByte faultKindOrder f.kind, enumByte faultSourceOrder f.source, f.sequence] ++ le16 f.detail
        ++ stamp f.timestamp ++ [byteOf (if f.more then 2 ^ 0 else 0)]
    | none => [255, 255, 0, 0, 0, 0, 0, 0] := by
  cases f with
  | none => rfl
  | some f => simp only [faultStatus, flagByte_one]

/-- A slot's fourteen bytes, UP shown as 2 and CANCEL as 3 in the closing (R107, R187). -/
theorem Slot.status_eq (k : Slot) : k.status =
    [enumByte slotStateOrder k.state, enumByte surfaceOrder k.surface, byteOf k.contact, enumByte touchOrder k.touch,
      byteOf ((if k.mark then 2 ^ 0 else 0) + (if k.announced then 2 ^ 1 else 0) + (if k.closed then 2 ^ 2 else 0)),
      (match k.reason with
        | some w => enumByte reasonOrder w
        | none => 255),
      (match k.closing with
        | some c => if c.kind = .up then 2 else 3
        | none => 255)] ++ le16 k.age ++ [byteOf k.missing] ++ le16 k.x ++ le16 k.y := by
  have reason : enumByteOpt reasonOrder k.reason = match k.reason with
      | some w => enumByte reasonOrder w
      | none => 255 := by
    cases k.reason <;> rfl
  have closing : enumByteOpt entryStateOrder (k.closing.map (·.kind.entryState)) = match k.closing with
      | some c => if c.kind = .up then 2 else 3
      | none => 255 := by
    cases k.closing with
    | none => rfl
    | some c => cases h : c.kind <;> simp [h] <;> rfl
  rw [Slot.status, flagByte_three, reason, closing]

/-- PAD's eight ready marks fill one byte (R180, R187). -/
theorem markBytes_eight (a b c d e f g h : Bool) : markBytes [a, b, c, d, e, f, g, h] =
    [byteOf ((if a then 2 ^ 0 else 0) + (if b then 2 ^ 1 else 0) + (if c then 2 ^ 2 else 0) + (if d then 2 ^ 3 else 0)
      + (if e then 2 ^ 4 else 0) + (if f then 2 ^ 5 else 0) + (if g then 2 ^ 6 else 0)
      + (if h then 2 ^ 7 else 0))] := by
  rw [← flagByte_eight]
  rfl

/-- PANEL's nine ready marks take a second byte (R180, R187). -/
theorem markBytes_nine (a b c d e f g h i : Bool) : markBytes [a, b, c, d, e, f, g, h, i] =
    [byteOf ((if a then 2 ^ 0 else 0) + (if b then 2 ^ 1 else 0) + (if c then 2 ^ 2 else 0) + (if d then 2 ^ 3 else 0)
      + (if e then 2 ^ 4 else 0) + (if f then 2 ^ 5 else 0) + (if g then 2 ^ 6 else 0)
      + (if h then 2 ^ 7 else 0)), byteOf (if i then 2 ^ 0 else 0)] := by
  rw [← flagByte_eight, ← flagByte_one]
  rfl

/-- A list of counters, two bytes each (R180, R187). -/
theorem flatMap_le16 (counters : List Nat) :
    (do let a ← counters; pure (a : Int)).flatMap (fun (n : Int) => le16 n) =
      (counters.map fun (n : Nat) => le16 (n : Int)).flatten := by
  have integers : (do let a ← counters; pure (a : Int)) = counters.map fun (n : Nat) => (n : Int) :=
    List.flatMap_pure_eq_map _ _
  rw [integers, List.flatMap_def, List.map_map]
  rfl

/-- Settles O56. -/
theorem readsReturnWhatIsHeld : Obligations.ReadsReturnWhatIsHeld := by
  refine ⟨?tables, ?noTable, ?noBlock, ?blocks, ?status⟩
  case tables =>
    intro s r t surf start count atHead payload i v entries mark
    have runs : exec .readTable s = .next (s.runReadTable r) :=
      atHead.run_next (State.headWaits_of_other_code atHead (by decide) (by decide) (by decide)) _
    have named : r.table = some t := by
      rw [Request.table, payload]
      exact valueIn_enumByte (mem_tableOrder t) (by decide)
    have starts : r.start = start.toNat := by rw [Request.start, payload]; rfl
    have counts : byteAt r.payload 3 = count.toNat := by rw [payload]; rfl
    have isSurf : enumByte surfaceOrder i = surf := atHead.table_surface payload
    have entries_eq : s.tableEntries t i = entries := by cases t <;> rfl
    have mark_eq : s.tableMark t i = mark := by cases t <;> rfl
    have run : s.runReadTable r =
        if !hasTable t i then s.answer r .badTable []
        else if tableSize t < start.toNat + count.toNat || 240 < count.toNat * entrySize t then
          s.answer r .badIndex []
        else if count.toNat == 0 then s.answer r .badValue []
        else s.answer r .ok (s.tableData t i start.toNat count.toNat) := by
      simp only [State.runReadTable, named, starts, counts]
      rfl
    rw [runs, run]
    refine ⟨fun absent => ?_, fun present some => ⟨fun outside => ?_, fun inside short => ?_⟩,
      fun present none => ⟨fun inside => ?_, fun outside => ?_⟩⟩
    · rw [if_pos (by simp [absent])]
    · rw [if_neg (by simp [present]), if_pos (by simpa using outside)]
    · obtain ⟨marks, others, curve, data⟩ := s.tableData_eq t i start count isSurf
      refine ⟨marks, others, curve, ?_⟩
      rw [if_neg (by simp [present]), if_neg (by simp; omega), if_neg (by simp; omega), data, entries_eq, mark_eq]
    · rw [if_neg (by simp [present]), if_neg (by simp [none]; omega), if_pos (by simp [none])]
    · rw [if_neg (by simp [present]), if_pos (by simp [none]; omega)]
  case noTable =>
    intro s r atHead unknown
    have runs : exec .readTable s = .next (s.runReadTable r) :=
      atHead.run_next (State.headWaits_of_other_code atHead (by decide) (by decide) (by decide)) _
    have noTable : r.table = none := List.getElem?_eq_none unknown
    rw [runs, State.runReadTable, noTable]
  case noBlock =>
    intro s r atHead unknown
    have runs : exec .readParams s = .next (s.runReadParams r) :=
      atHead.run_next (State.headWaits_of_other_code atHead (by decide) (by decide) (by decide)) _
    have noBlock : r.block = none := List.getElem?_eq_none unknown
    rw [runs, State.runReadParams, noBlock]
  case blocks =>
    intro s r b surf atHead payload i v data
    have runs : exec .readParams s = .next (s.runReadParams r) :=
      atHead.run_next (State.headWaits_of_other_code atHead (by decide) (by decide) (by decide)) _
    have named : r.block = some b := by
      rw [Request.block, payload]
      exact valueIn_enumByte (mem_blockOrder b) (by decide)
    have data_eq : s.blockData b i = data := by
      cases b with
      | rejection => exact s.blockData_rejection i
      | geometry | detection | reporting | pen | queue => rfl
    have run : s.runReadParams r =
        if !hasBlock b i then s.answer r .badTable []
        else s.withFreeRead.answer r .ok
          ([enumByte blockOrder b, surf, (if s.blockMark b i then 1 else 0)] ++ data) := by
      simp only [State.runReadParams, named, payload, ← data_eq, ← flagByte_single]
      rfl
    rw [runs, run]
    refine ⟨fun absent => ?_, fun present => ⟨s.blockMark b i, ?_, ?_, ?_, ?_, ?_, ?_⟩⟩
    · rw [if_pos (by simp [absent])]
    · rintro rfl; rfl
    · rintro rfl; rfl
    · rintro rfl; rfl
    · rintro rfl; exact s.rejectionReady_eq i
    · rintro rfl; rfl
    · rw [if_neg (by simp [present])]
      rfl
  case status =>
    intro s r code atHead payload answers two bit shown p g
    have runs : exec .readStatus s = .next (s.runReadStatus r) :=
      atHead.run_next (State.headWaits_of_other_code atHead (by decide) (by decide) (by decide)) _
    have section_eq (x : StatusSection) (isSection : valueIn statusSectionOrder code.toNat = some x) :
        answers (s.statusData x) := by
      simp only [answers, runs, State.runReadStatus, payload, byteAt, List.getD_cons_zero, isSection]
    refine ⟨?_, ?_, ?_, ?_, ?_, ?_, ?unknown⟩
    case unknown =>
      intro unknown
      have noSection : valueIn statusSectionOrder code.toNat = none := List.getElem?_eq_none unknown
      simp only [runs, State.runReadStatus, payload, byteAt, List.getD_cons_zero, noSection]
    · rintro rfl
      refine (congrArg answers ?_).mp (section_eq .surfaces rfl)
      change s.surfacesStatus = _
      have padMarks := markBytes_eight s.pad.geometryReady s.pad.detectionReady s.pad.reportingReady
        s.padRejectionReady s.pad.lineMapLoaded s.pad.classReady s.pad.zoneReady s.gestureReady
      have panelMarks := markBytes_nine s.panel.geometryReady s.panel.detectionReady s.panel.reportingReady
        s.panelRejectionReady s.penBlockReady s.panel.lineMapLoaded s.panel.classReady s.panel.zoneReady s.curveReady
      have pad : s.surfaceStatus .pad = shown s.pad ++ markBytes (s.readyMarks .pad) := by
        simp only [State.surfaceStatus, flagByte_one]
        rfl
      have panel : s.surfaceStatus .panel = if s.straps.panelEn then shown s.panel ++ markBytes (s.readyMarks .panel)
          else [4, 0, 0, 0, 0, 0] := by
        simp only [State.surfaceStatus, flagByte_one]
        rfl
      have remaining : (match s.linger with
          | some l => ((l.remaining s.time : Nat) : Int)
          | none => 0) = match s.linger with
          | some l => if (l.deadline - s.time).toNat ≤ 2000 then ((l.deadline - s.time).toNat : Int) else 0
          | none => 0 := by
        cases s.linger with
        | none => rfl
        | some l => exact Nat.cast_ite _ _ _
      have padReady : markBytes (s.readyMarks .pad) = _ := padMarks
      have panelReady : markBytes (s.readyMarks .panel) = _ := panelMarks
      rw [State.surfacesStatus, pad, panel, padReady, panelReady]
      simp only [two]
      exact congrArg (_ ++ le16 ·) remaining
    · rintro rfl
      refine (congrArg answers ?_).mp (section_eq .pen rfl)
      change s.penStatus = _
      rw [State.penStatus]
      split
      next => rw [flagByte_one, flagByte_four]
      next => rfl
    · rintro rfl
      refine (congrArg answers ?_).mp (section_eq .gesture rfl)
      change s.gestureStatus = _
      simp only [State.gestureStatus, flagByte_one, List.flatMap_def, committedStatus_eq, pendingEndStatus_eq]
      rfl
    · rintro rfl
      refine (congrArg answers ?_).mp (section_eq .slots rfl)
      change s.slotsStatus = _
      rw [State.slotsStatus, List.flatMap_def]
      exact congrArg (fun (shown : List (List Byte)) => shown.flatten ++ [byteOf s.nextContact])
        (List.map_congr_left fun k _ => k.status_eq)
    · rintro rfl
      refine (congrArg answers ?_).mp (section_eq .fault rfl)
      change s.faultSection = _
      simp only [State.faultSection, faultStatus_eq]
      rfl
    · rintro rfl
      refine (congrArg answers ?_).mp (section_eq .counters rfl)
      change s.countersStatus = _
      simp only [State.countersStatus, LinkCounters.bytes, flatMap_le16, List.map_cons, List.map_nil,
        List.flatten_cons, List.flatten_nil, List.append_nil, List.append_assoc, two]

end Sys2Proof.Machine
end

section
/-! PROOFS. The system link: transactions, packets, notices, deadlines and the fault record (R168 to R173, R181). -/

namespace Sys2Proof.Machine

variable {s : State} {r : Request} {code : Nat}

/-! ## The fault record (R181) -/

theorem State.alertPresent_iff : s.alertPresent = true ↔ ∃ r ∈ s.queue, r.body.kindCode = 11 := by
  simp [State.alertPresent, Body.isAlert_eq_kindCode]

/-- An ALERT in the queue asserts ATTN from start-up on (R173). -/
theorem State.attnDue_of_alert (present : s.alertPresent = true) : s.attnDue = s.started := by
  simp [State.attnDue, present]

/-- Settles O41: the mask decides first, then whether the record is empty, then whether an ALERT is present. -/
theorem faultsAreCapturedOnce : Obligations.FaultsAreCapturedOnce := by
  intro s kind source sequence detail f alert
  refine ⟨fun masked => ?_, fun captured => ⟨fun g full => ?_, fun empty => ⟨fun present => ?_, fun absent => ?_⟩⟩⟩
  · rw [State.raiseFault, masked]
    rfl
  · rw [State.raiseFault, captured, full]
    rfl
  · have raised : s.raiseFault kind source sequence detail = (s.withFault (some f)).requestAlert f := by
      rw [State.raiseFault, captured, empty]
      rfl
    have stands : (s.withFault (some f)).alertPresent = true := State.alertPresent_iff.mpr present
    rw [raised, State.requestAlert, if_pos stands]
    rfl
  · have raised : s.raiseFault kind source sequence detail = (s.withFault (some f)).requestAlert f := by
      rw [State.raiseFault, captured, empty]
      rfl
    have none : ¬ (s.withFault (some f)).alertPresent = true := by
      rw [State.alertPresent_iff]
      rintro ⟨r, mem, isAlert⟩
      exact absent r mem isAlert
    have due : State.attnDue { s with fault := some f, queue := s.queue ++ [alert] } = s.started :=
      State.attnDue_of_alert (State.alertPresent_iff.mpr ⟨alert, by simp, rfl⟩)
    rw [raised, State.requestAlert, if_neg none]
    change { s with
      fault := some f, queue := s.queue ++ [alert]
      attn := State.attnDue { s with fault := some f, queue := s.queue ++ [alert] } } = _
    rw [due]

/-! ## Packet faults and refusals (R170 to R172) -/

theorem State.attnDue_of_packetError (error : s.packetError = true) : s.attnDue = s.started := by
  simp [State.attnDue, error]

theorem State.attnDue_of_requestRefused (refused : s.requestRefused = true) : s.attnDue = s.started := by
  simp [State.attnDue, refused]

/-- PACKET_ERROR set outside a transaction asserts ATTN (R170, R173). -/
theorem State.setPacketError_eq (started : s.started = true) (idle : s.transaction = none) :
    s.setPacketError = { s with packetError := true, attn := true } := by
  have due : State.attnDue { s with transaction := none, packetError := true } = true :=
    (State.attnDue_of_packetError rfl).trans started
  have kept : s.setPacketError = State.refreshAttn { s with transaction := none, packetError := true } := by
    rw [State.setPacketError, idle]
    rfl
  rw [kept, State.refreshAttn, due, ← idle]

theorem State.setRequestRefused_eq (started : s.started = true) (idle : s.transaction = none) :
    s.setRequestRefused = { s with requestRefused := true, attn := true } := by
  have due : State.attnDue { s with transaction := none, requestRefused := true } = true :=
    (State.attnDue_of_requestRefused rfl).trans started
  have kept : s.setRequestRefused = State.refreshAttn { s with transaction := none, requestRefused := true } := by
    rw [State.setRequestRefused, idle]
    rfl
  rw [kept, State.refreshAttn, due, ← idle]

theorem State.raiseFault_started (kind : FaultKind) (source : FaultSource) (sequence : Byte) (detail : Nat) :
    (s.raiseFault kind source sequence detail).started = s.started ∧
      (s.raiseFault kind source sequence detail).transaction = s.transaction := by
  obtain ⟨f, q, a, raised⟩ := s.raiseFault_frame kind source sequence detail
  rw [raised]
  exact ⟨rfl, rfl⟩

/-- A packet fault outside a transaction (R171). -/
theorem State.packetFault_eq (started : s.started = true) (idle : s.transaction = none) (tag : Byte)
    {reason : PacketReason} {number : Nat} (numbered : codeIn packetReasonOrder reason = number) :
    s.packetFault tag reason =
      { State.raiseFault { s with packetCrcCount := min 65535 (s.packetCrcCount + 1) } .packetCrc .systemLink tag
          number with packetError := true, attn := true } := by
  subst numbered
  obtain ⟨startedToo, idleToo⟩ := State.raiseFault_started (s := { s with packetCrcCount := bump s.packetCrcCount 1 })
    .packetCrc .systemLink tag (codeIn packetReasonOrder reason)
  exact State.setPacketError_eq (startedToo.trans started) (idleToo.trans idle)

/-! ## Packets as their bytes lie (R171, R188) -/

/-- A packet with its CRC behind it goes on to the length test, then to the kind (R171). -/
theorem packetOf_sealed (body : List Byte) : packetOf (body ++ stamp (crc16 body)) =
    if body.length < 5 ∨ body.length - 5 ≠ word16At (body ++ stamp (crc16 body)) 3 then .inl .length
    else if byteAt body 0 ≠ 1 ∧ byteAt body 0 ≠ 2 then .inl .kind
    else .inr { kind := byteAt body 0, code := body.getD 1 0, tag := body.getD 2 0, payload := body.drop 5 } := by
  have length : (body ++ stamp (crc16 body)).length = body.length + 2 := by rw [List.length_append]; rfl
  have front : (body ++ stamp (crc16 body)).take (body.length + 2 - 2) = body := List.take_left' rfl
  have back : (body ++ stamp (crc16 body)).drop (body.length + 2 - 2) = stamp (crc16 body) := List.drop_left' rfl
  have byte (i : Nat) (inside : i < body.length) : (body ++ stamp (crc16 body)).getD i 0 = body.getD i 0 :=
    List.getD_append _ _ _ _ inside
  have crcRight : ¬ (decide (body.length + 2 < 2) || stamp (crc16 body) != stamp (crc16 body)) = true := by simp
  simp only [packetOf, length, front, back]
  rw [if_neg crcRight]
  by_cases short : body.length < 5
  · rw [if_pos (by simp; omega), if_pos (.inl short)]
  · have sizes : body.length + 2 - 7 = body.length - 5 := by omega
    simp only [byteAt, byte 0 (by omega), byte 1 (by omega), byte 2 (by omega), sizes]
    refine if_congr ?_ rfl (if_congr ?_ rfl rfl)
    · rw [Bool.or_eq_true, decide_eq_true_iff, bne_iff_ne]
      exact or_congr (by omega) Iff.rfl
    · rw [Bool.and_eq_true, bne_iff_ne, bne_iff_ne]

/-- A packet whose length field is right (R188). -/
theorem packetOf_downstream {payload : List Byte} (small : payload.length < 65536) (kind code tag : Byte) :
    packetOf (downstream kind code tag payload) =
      if kind ≠ 1 ∧ kind ≠ 2 then .inl .kind
      else .inr { kind := kind.toNat, code := code, tag := tag, payload := payload } := by
  have length : ([kind, code, tag] ++ le16 payload.length ++ payload).length = payload.length + 5 := by
    simp [le16_length]
    omega
  have field : word16At (downstream kind code tag payload) 3 = payload.length := word16_le16_nat small
  have isKind (n : Byte) : byteAt ([kind, code, tag] ++ le16 payload.length ++ payload) 0 ≠ n.toNat ↔ kind ≠ n :=
    not_congr BitVec.toNat_inj
  rw [downstream] at field
  rw [downstream, packetOf_sealed, if_neg (by rw [field, length]; omega)]
  exact if_congr (and_congr (isKind 1) (isKind 2)) rfl rfl

theorem packetOf_crc {bytes : List Byte}
    (differs : stamp (crc16 (bytes.take (bytes.length - 2))) ≠ bytes.drop (bytes.length - 2)) :
    packetOf bytes = .inl .crc := by
  rw [packetOf]
  exact if_pos (by simp [differs])

/-- A PUT outside a transaction (R167, R171). -/
theorem exec_put_eq (started : s.started = true) (idle : s.transaction = none) (bytes : List Byte) :
    exec (.put bytes) s = .next (s.takePut bytes) := by
  have free : s.linkFree = true := by simp [State.linkFree, started, idle]
  exact congrArg Host.Outcome.next (if_pos free)

theorem State.takePut_fault {bytes : List Byte} {reason : PacketReason} (faulty : packetOf bytes = .inl reason) :
    s.takePut bytes = s.withFreeRead.packetFault (s.receivedTag bytes) reason := by
  rw [State.takePut, faulty]

theorem State.takePut_packet {bytes : List Byte} {p : Packet} (sound : packetOf bytes = .inr p) :
    s.takePut bytes = s.takePacket p := by
  rw [State.takePut, sound]

/-- The tag of a packet that has one (R171). -/
theorem State.receivedTag_of_long {bytes : List Byte} (long : 3 ≤ bytes.length) :
    s.receivedTag bytes = bytes.getD 2 0 := by
  simp [State.receivedTag, List.getD_eq_getElem?_getD, List.getElem?_eq_getElem (show 2 < bytes.length from long)]

/-- Settles O45: the budget decides. -/
theorem requestsMeetTheBudget : Obligations.RequestsMeetTheBudget := by
  intro s code tag payload started idle small
  have sound : packetOf (downstream 1 code tag payload) = .inr { kind := 1, code, tag, payload } :=
    packetOf_downstream small 1 code tag
  have run : exec (.put (downstream 1 code tag payload)) s = .next (s.intake { code, tag, payload }) := by
    rw [exec_put_eq started idle, State.takePut_packet sound]
    rfl
  rw [run, State.intake]
  refine ⟨fun below => ?_, fun full => ?_⟩
  · rw [if_pos below]
    rfl
  · rw [if_neg (by omega)]
    obtain ⟨f, q, a, raised⟩ := State.raiseFault_frame { s with refusedCount := bump s.refusedCount 1 } .requestRefused
      .systemLink tag code.toNat
    obtain ⟨startedToo, idleToo⟩ := State.raiseFault_started (s := { s with refusedCount := bump s.refusedCount 1 })
      .requestRefused .systemLink tag code.toNat
    refine ⟨_, rfl, ?_⟩
    rw [State.setRequestRefused_eq (startedToo.trans started) (idleToo.trans idle)]
    have counted := congrArg State.refusedCount raised
    refine ⟨rfl, counted, rfl, _, ?_, rfl⟩
    rw [counted]

/-- A POSTURE payload that names no posture (R171). -/
theorem postureOf_eq_none {payload : List Byte} (wrong : payload.length ≠ 1 ∨ 5 ≤ byteAt payload 0) :
    postureOf payload = none := by
  match payload with
  | [] => rfl
  | [b] => exact List.getElem?_eq_none (wrong.resolve_left (by simp))
  | _ :: _ :: _ => rfl

/-- Settles O46: each reason on its own bytes, and each wrong notice by its row and by PUT. -/
theorem faultyPacketsAreDiscarded : Obligations.FaultyPacketsAreDiscarded := by
  intro s started idle faulted
  have fault (tag : Byte) {reason : PacketReason} {number : Nat}
      (numbered : codeIn packetReasonOrder reason = number) :
      s.packetFault tag reason = faulted s.free tag number :=
    State.packetFault_eq started idle tag numbered
  have faultFree (tag : Byte) {reason : PacketReason} {number : Nat}
      (numbered : codeIn packetReasonOrder reason = number) :
      s.withFreeRead.packetFault tag reason = faulted (s.free + 1) tag number :=
    State.packetFault_eq (s := s.withFreeRead) started idle tag numbered
  have discards {bytes : List Byte} {reason : PacketReason} {number : Nat} (long : 3 ≤ bytes.length)
      (faulty : packetOf bytes = .inl reason) (numbered : codeIn packetReasonOrder reason = number) :
      exec (.put bytes) s = .next (faulted (s.free + 1) (bytes.getD 2 0) number) := by
    rw [exec_put_eq started idle, State.takePut_fault faulty, State.receivedTag_of_long long, faultFree _ numbered]
  have notice {code tag : Byte} {payload : List Byte} (small : payload.length < 65536) :
      exec (.put (downstream 2 code tag payload)) s = .next (s.takePacket { kind := 2, code, tag, payload }) := by
    rw [exec_put_eq started idle, State.takePut_packet (packetOf_downstream small 2 code tag)]
    rfl
  refine ⟨fun bytes long differs => discards long (packetOf_crc differs) rfl, ?length, ?short, ?kind, ?code, ?posture, ?key⟩
  case length =>
    intro kind code tag lo hi payload differs body
    have length : body.length = payload.length + 5 := by simp [body]
    refine discards (reason := .length) (by rw [List.length_append, length]; omega) ?_ rfl
    rw [packetOf_sealed]
    refine if_pos (.inr ?_)
    rw [length]
    exact differs
  case short =>
    intro body nonempty short bytes
    refine discards (reason := .length) (by rw [List.length_append]; exact Nat.add_le_add_right nonempty 2) ?_ rfl
    rw [packetOf_sealed]
    exact if_pos (.inl short)
  case kind =>
    intro kind code tag payload small notRequest notNotice
    refine discards (reason := .kind) ?_ ?_ rfl
    · rw [downstream, List.length_append, List.length_append, List.length_append]
      simp only [List.length_cons]
      omega
    · rw [packetOf_downstream small]
      exact if_pos ⟨notRequest, notNotice⟩
  case code =>
    intro code tag payload small notPosture notKey
    rw [notice small]
    have other : ∀ n : Nat, code.toNat = n → n ≠ 1 ∧ n ≠ 2 := by
      rintro n rfl
      exact ⟨fun one => notPosture (BitVec.eq_of_toNat_eq one), fun two => notKey (BitVec.eq_of_toNat_eq two)⟩
    obtain ⟨no1, no2⟩ := other _ rfl
    have unknown : s.takePacket { kind := 2, code, tag, payload } = s.packetFault tag .noticeCode := by
      have byCode : s.takePacket { kind := 2, code, tag, payload } = match code.toNat with
          | 1 => s.takePosture tag payload
          | 2 => s.takeKeyActivity tag payload
          | _ => s.packetFault tag .noticeCode := rfl
      rw [byCode]
      split
      · contradiction
      · contradiction
      · rfl
    rw [unknown, fault tag (number := 3) rfl]
  case posture =>
    intro tag payload wrong
    have taken : s.takePosture tag payload = faulted s.free tag 4 := by
      rw [State.takePosture, postureOf_eq_none wrong]
      exact fault tag rfl
    refine ⟨?_, fun small => ?_⟩
    · rw [← taken]
      exact congrArg Host.Outcome.next (if_pos started)
    · rw [notice small, ← taken]
      rfl
  case key =>
    intro tag payload wrong
    have taken : s.takeKeyActivity tag payload = faulted s.free tag 4 := by
      rw [State.takeKeyActivity, if_neg (by simpa using wrong)]
      exact fault tag rfl
    refine ⟨?_, fun small => ?_⟩
    · rw [← taken]
      exact congrArg Host.Outcome.next (if_pos started)
    · rw [notice small, ← taken]
      rfl

/-- Settles O47: the same effect by the notice's own row and by PUT. -/
theorem noticesActAtOnce : Obligations.NoticesActAtOnce := by
  intro s started guarded
  have put (idle : s.transaction = none) {code tag : Byte} {payload : List Byte} (small : payload.length < 65536) :
      exec (.put (downstream 2 code tag payload)) s = .next (s.takePacket { kind := 2, code, tag, payload }) := by
    rw [exec_put_eq started idle, State.takePut_packet (packetOf_downstream small 2 code tag)]
    rfl
  refine ⟨fun tag b p isPosture => ?_, fun tag => ?_⟩
  · have taken : s.takePosture tag [b] = { s with posture := p } := by
      have named : postureOf [b] = some p := isPosture
      rw [State.takePosture, named]
    refine ⟨?_, fun idle => ?_⟩
    · rw [← taken]
      exact congrArg Host.Outcome.next (if_pos started)
    · rw [put idle (by simp), ← taken]
      rfl
  · have taken : s.takeKeyActivity tag [] = guarded := by
      change s.keyActivity = _
      rw [State.keyActivity]
      by_cases guards : s.padRejectionReady = true ∧ s.padRejection.guardTime ≠ 0
      · rw [if_pos (by simpa using guards)]
        simp only [guarded]
        rw [if_pos guards]
      · rw [if_neg (by simpa using guards)]
        simp only [guarded]
        rw [if_neg guards]
    refine ⟨?_, fun idle => ?_⟩
    · rw [← taken]
      exact congrArg Host.Outcome.next (if_pos started)
    · rw [put idle (by simp), ← taken]
      rfl

/-! ## Deadlines (R116, R120, R173) -/

theorem Linger.remaining_eq_zero_iff (l : Linger) (now : BitVec 32) :
    l.remaining now = 0 ↔ l.deadline = now ∨ 2000 < (l.deadline - now).toNat := by
  have passed : (l.deadline - now).toNat = 0 ↔ l.deadline = now := by
    constructor
    · intro zero
      bv_omega
    · rintro rfl
      simp
  rw [← passed]
  simp only [Linger.remaining]
  split <;> omega

theorem State.attnDue_of_delay (reached : s.delayReached = true) : s.attnDue = s.started := by
  simp [State.attnDue, reached]

/-- Settles O48. -/
theorem deadlinesActAlone : Obligations.DeadlinesActAlone := by
  intro s started
  have guardRow : exec .typingGuardExpiry s = .next s.typingGuardExpiry :=
    congrArg Host.Outcome.next (if_pos started)
  have lingerRow : exec .lingerDeadline s = .next s.lingerDeadline := congrArg Host.Outcome.next (if_pos started)
  refine ⟨fun due => ?_, fun n early => ?_, fun l held due => ?_, fun l held notNow early => ?_,
    fun r rest queue limited reached => ?_⟩
  · rw [guardRow, State.typingGuardExpiry, due]
    rfl
  · rw [guardRow, State.typingGuardExpiry, early]
    rfl
  · rw [lingerRow, State.lingerDeadline, held]
    exact congrArg Host.Outcome.next (if_pos (beq_iff_eq.mpr ((l.remaining_eq_zero_iff s.time).mpr due)))
  · have waits : l.remaining s.time ≠ 0 := fun zero =>
      ((l.remaining_eq_zero_iff s.time).mp zero).elim notNow (not_lt.mpr early)
    rw [lingerRow, State.lingerDeadline, held]
    exact congrArg Host.Outcome.next (if_neg (by simpa using waits))
  · have due : s.delayReached = true := by
      rw [State.delayReached, queue]
      simpa using ⟨limited, reached⟩
    have row : exec .attnMaxDelay s = .next s.refreshAttn := congrArg Host.Outcome.next (if_pos due)
    rw [row, State.refreshAttn, State.attnDue_of_delay due, started]

/-! ## Transactions (R103, R168 to R170) -/

/-- The header bytes of R188, whatever the queue holds. -/
theorem State.statusHeader_eq (s : State) : s.statusHeader =
    [BitVec.ofNat 8 s.queue.length, BitVec.ofNat 8 s.responseCount,
      BitVec.ofNat 8 ((if s.alertPresent then 1 else 0) + (if s.queueBlock.almostFull ≤ s.generalCount then 2 else 0)
        + (if s.packetError then 4 else 0) + (if s.requestRefused then 8 else 0)),
      (match s.resetCause with
        | .none => 0
        | .powerOn => 1
        | .resetPin => 2
        | .fullReset => 3),
      BitVec.ofNat 8 ((s.queue.head?.map (fun r => r.body.kindCode)).getD 0),
      BitVec.ofNat 8 ((s.queue.head?.map (fun r => r.bytes.length)).getD 0)] := by
  have flags : ∀ a b c d : Bool, flagByte [a, b, c, d] = BitVec.ofNat 8 ((if a then 1 else 0) + (if b then 2 else 0)
      + (if c then 4 else 0) + (if d then 8 else 0)) := by decide
  have full : (if s.almostFullFlag = true then 2 else 0) = if s.queueBlock.almostFull ≤ s.generalCount then 2 else 0 :=
    if_congr decide_eq_true_iff rfl rfl
  have cause : enumByte resetCauseOrder s.resetCause = match s.resetCause with
      | .none => 0
      | .powerOn => 1
      | .resetPin => 2
      | .fullReset => 3 := by
    cases s.resetCause <;> rfl
  have head : (match s.queue with
      | r :: _ => [byteOf r.body.kindCode, byteOf r.bytes.length]
      | [] => [0, 0]) = [BitVec.ofNat 8 ((s.queue.head?.map (fun r => r.body.kindCode)).getD 0),
        BitVec.ofNat 8 ((s.queue.head?.map (fun r => r.bytes.length)).getD 0)] := by
    cases s.queue <;> rfl
  rw [State.statusHeader, flags, full, cause]
  exact congrArg (_ ++ ·) head

/-- Settles O43. -/
theorem transactionsOpenWithASnapshot : Obligations.TransactionsOpenWithASnapshot := by
  intro s started idle kind size record header opened
  have free : s.linkFree = true := by simp [State.linkFree, started, idle]
  have headers : s.statusHeader = header := s.statusHeader_eq
  refine ⟨?_, ?_, fun code no1 no2 no3 => ⟨.idle, ?_, rfl, rfl, rfl⟩⟩
  · have row : exec .take s = .next (s.withTransaction (some (s.opened true))) :=
      congrArg Host.Outcome.next (if_pos free)
    have opens : s.opened true = opened (header ++ record) (!s.queue.isEmpty) size := by
      rw [State.opened, headers]
      cases queue : s.queue <;> simp [opened, record, size, queue]
    rw [row, opens]
    rfl
  · have row : exec .status s = .next (s.withTransaction (some (s.opened false))) :=
      congrArg Host.Outcome.next (if_pos free)
    have opens : s.opened false = opened header false 0 := by
      rw [State.opened, headers]
      simp [opened]
    rw [row, opens]
    rfl
  · have unknown : (code.toNat == 0 || 3 < code.toNat) = true := by
      simp only [Bool.or_eq_true, beq_iff_eq, decide_eq_true_iff]
      bv_omega
    exact congrArg Host.Outcome.next (if_pos (by rw [free, unknown]; rfl))

/-- A surface that is not RUNNING and has a slot holding a closing (R103). -/
theorem State.closingDue_iff (i : SurfaceId) : s.closingDue i = true ↔ (s.surface i).status ≠ .running ∧
    ∃ k ∈ s.slots, k.surface = i ∧ k.state ≠ .free ∧ k.closing ≠ none := by
  simp only [State.closingDue, State.hasClosing, Slot.ofSurface, Bool.and_eq_true, bne_iff_ne, List.any_eq_true,
    beq_iff_eq, Option.isSome_iff_ne_none]
  refine and_congr_right fun _ => exists_congr fun k => ?_
  tauto

theorem State.retryClosing_eq (i : SurfaceId) : s.retryClosing i =
    if (s.surface i).status ≠ .running ∧ ∃ k ∈ s.slots, k.surface = i ∧ k.state ≠ .free ∧ k.closing ≠ none
    then s.closingOnlyReport i else s :=
  if_congr (State.closingDue_iff i) rfl rfl

theorem State.retryEnd_of_none (none : s.gesture.pendingEnd = none) : s.retryEnd = s := by
  rw [State.retryEnd, none]

theorem State.retryClosings_gesture : s.retryClosings.gesture = s.gesture := by
  have one (t : State) (i : SurfaceId) : (t.retryClosing i).gesture = t.gesture := by
    unfold State.retryClosing
    split
    · obtain ⟨q, a, m, d, x, f, l, w, report⟩ := t.closingOnlyReport_frame i
      rw [report]
    · rfl
  rw [State.retryClosings, one, one]

theorem State.retryClosings_of_none (none : ∀ i, s.closingDue i = false) : s.retryClosings = s := by
  have one (i : SurfaceId) : s.retryClosing i = s := if_neg (by simp [none i])
  rw [State.retryClosings, one, one]

/-- The offers after a removal, when no END is pending (R103). -/
theorem State.afterRemoval_of_noEnd (noEnd : s.gesture.pendingEnd = none) : s.afterRemoval = s.retryClosings := by
  rw [State.afterRemoval, if_neg (by simp [noEnd]), State.retryEnd_of_none]
  rw [State.retryClosings_gesture, noEnd]

theorem State.afterRemoval_of_noClosing (none : ∀ i, s.closingDue i = false) : s.afterRemoval = s.retryEnd := by
  rw [State.afterRemoval, if_neg (by simp [none]), State.retryClosings_of_none none]

theorem State.afterRemoval_cases : s.afterRemoval = s.retryClosings.retryEnd ∨
    s.afterRemoval = s.withFreeRead.retryClosings.retryEnd ∨
    s.afterRemoval = s.withFreeRead.retryEnd.retryClosings := by
  unfold State.afterRemoval
  split
  · split
    · exact .inr (.inr rfl)
    · exact .inr (.inl rfl)
  · exact .inl rfl

/-- Settles O44. -/
theorem releaseClearsAndRemoves : Obligations.ReleaseClearsAndRemoves := by
  refine ⟨fun s => ?closings, fun s x sent open_ => ?release⟩
  case closings =>
    intro due offered
    have one (t : State) (i : SurfaceId) : t.retryClosing i = offered t i := t.retryClosing_eq i
    rw [State.retryClosings, one, one]
  case release =>
    intro ended cleared kept removed
    have row : exec (.transactionRelease sent) s = .next (s.release x sent) := by
      change Host.Outcome.next (match s.transaction with
        | some t => s.release t sent
        | none => s) = _
      rw [open_]
    have kept_eq : (if x.sendsHeader && 6 ≤ sent then (s.withTransaction none).clearShown x
        else s.withTransaction none) = kept := by
      refine if_congr (by simp) rfl rfl
    have run : s.release x sent = if x.delivering && 6 + x.recordLength ≤ sent then removed.afterRemoval else kept := by
      simp only [State.release, kept_eq]
      rfl
    have shared : removed.gesture = s.gesture ∧ removed.slots = s.slots ∧ ∀ i, removed.surface i = s.surface i := by
      have of (t : State) (same : t.gesture = s.gesture ∧ t.slots = s.slots ∧ ∀ i, t.surface i = s.surface i) :
          (t.withQueue t.queue.tail).gesture = s.gesture ∧ (t.withQueue t.queue.tail).slots = s.slots ∧
            ∀ i, (t.withQueue t.queue.tail).surface i = s.surface i := by
        obtain ⟨gesture, slots, surface⟩ := same
        exact ⟨gesture, slots, fun i => by rw [← surface i]; cases i <;> rfl⟩
      refine of kept ?_
      by_cases whole : x.sendsHeader = true ∧ 6 ≤ sent
      · rw [show kept = cleared from if_pos whole]
        exact ⟨rfl, rfl, fun i => by cases i <;> rfl⟩
      · rw [show kept = ended from if_neg whole]
        exact ⟨rfl, rfl, fun i => by cases i <;> rfl⟩
    obtain ⟨gesture, slots, surface⟩ := shared
    rw [row, run]
    refine ⟨fun early => ?_, fun delivering whole => ?_⟩
    · rw [if_neg]
      rw [Bool.and_eq_true, decide_eq_true_iff]
      rintro ⟨delivering, whole⟩
      obtain notDelivering | early := early
      · rw [delivering] at notDelivering; cases notDelivering
      · omega
    · rw [if_pos (by simp [delivering, whole])]
      refine ⟨fun noEnd => ?_, fun noClosing => ?_, ?_⟩
      · rw [State.afterRemoval_of_noEnd (by rw [gesture, noEnd])]
      · rw [State.afterRemoval_of_noClosing]
        intro i
        rw [← Bool.not_eq_true, State.closingDue_iff, slots, surface]
        rintro ⟨notRunning, k, mem, rfl, notFree, closing⟩
        exact notRunning (noClosing k mem notFree closing)
      · obtain first | second | third := removed.afterRemoval_cases
        · exact .inl (congrArg _ first)
        · exact .inr (.inl (congrArg _ second))
        · exact .inr (.inr (congrArg _ third))

end Sys2Proof.Machine
end

section
/-! PROOFS. Surface ends: the closing-only report, the cancellation, the pen's effect, and all of them together (R12 to
R14, R103, R106, R144, R158). -/

namespace Sys2Proof.Machine

variable {s : State}

/-! ## Offers that are never dropped (R163) -/

/-- A frame report or an END is placed, or deferred (R163). -/
theorem State.offer_placed_iff {q : Byte} {t : BitVec 16} {b : Body} (defers : b.defers = true) :
    (s.offer q t b).1.placed = true ↔ (s.offer q t b).1 ≠ .deferred := by
  obtain ⟨h, -⟩ | ⟨r, -, -, h⟩ | ⟨-, -, h⟩ | ⟨drops, -, h⟩ := s.offer_cases q t b
  · simp [h, Placement.placed]
  · simp [h, Placement.placed]
  · simp [h, Placement.placed]
  · rw [defers] at drops; cases drops

/-! ## The closing-only report (R103) -/

theorem State.closingOnlyReport_of_none (i : SurfaceId) (none : (entriesOf i (s.surface i).reporting
    (s.surface i).geometry s.slots).filter FrameEntry.closes = []) : s.closingOnlyReport i = s := by
  simp only [State.closingOnlyReport, none]
  rfl

/-- The closing-only report is deferred, or applied to the slots of its surface (R103 to R105). -/
theorem State.closingOnlyReport_of_some (i : SurfaceId) (entries : List FrameEntry) (listed : (entriesOf i
    (s.surface i).reporting (s.surface i).geometry s.slots).filter FrameEntry.closes = entries) (some : entries ≠ []) :
    let o := s.offer (s.surface i).lastTracked (low16 s.time) (.frameReport
      { surface := i, switchClosed := i == .pad && s.switchReported, merged := 1, entries := entries })
    (o.1 = .deferred → s.closingOnlyReport i = o.2) ∧
    (o.1 ≠ .deferred → s.closingOnlyReport i =
      { o.2 with slots := s.slots.map (fun k => if k.ofSurface i then k.placed entries else k) }) := by
  intro o
  have report : s.closingOnlyReport i = s.offerFrameReport (s.surface i).lastTracked (low16 s.time)
      { surface := i, switchClosed := i == .pad && s.switchReported, merged := 1, entries := entries } := by
    simp only [State.closingOnlyReport, listed]
    rw [if_neg (by simpa using some)]
  have switch : (if (i == .pad) = true then i == .pad && s.switchReported else s.switchReported) = s.switchReported := by
    cases i <;> rfl
  have kept : o.2.switchReported = s.switchReported := by
    obtain ⟨q, a, m, d, x, f, frame⟩ := s.offer_frame (s.surface i).lastTracked (low16 s.time) (.frameReport
      { surface := i, switchClosed := i == .pad && s.switchReported, merged := 1, entries := entries })
    rw [show o.2 = _ from frame]
  rw [report]
  obtain ⟨deferred, outcome⟩ | ⟨placed, outcome⟩ := State.offerFrameReport_cases (s := s) (s.surface i).lastTracked
    (low16 s.time) { surface := i, switchClosed := i == .pad && s.switchReported, merged := 1, entries := entries }
  · have notPlaced : ¬ o.1 ≠ .deferred := by
      rw [← State.offer_placed_iff rfl, deferred]
      simp
    exact ⟨fun _ => outcome, fun placed => absurd placed notPlaced⟩
  · have isPlaced : o.1 ≠ .deferred := (State.offer_placed_iff rfl).mp placed
    refine ⟨fun deferred => absurd deferred isPlaced, fun _ => ?_⟩
    rw [outcome, switch]
    change { o.2 with
      slots := s.slots.map (fun (k : Slot) => if k.ofSurface i then k.placed entries else k)
      switchReported := s.switchReported } = _
    rw [← kept]

/-- The slots after a closing-only report (R103, R104). -/
theorem State.closingOnlyReport_slots (i : SurfaceId) : (s.closingOnlyReport i).slots = s.slots ∨
    ∃ entries, (s.closingOnlyReport i).slots = s.slots.map (fun k => if k.ofSurface i then k.placed entries else k) := by
  by_cases none : (entriesOf i (s.surface i).reporting (s.surface i).geometry s.slots).filter FrameEntry.closes = []
  · exact .inl (by rw [s.closingOnlyReport_of_none i none])
  · obtain ⟨deferred, placed⟩ := s.closingOnlyReport_of_some i _ rfl none
    by_cases outcome : (s.offer (s.surface i).lastTracked (low16 s.time) (.frameReport
        { surface := i, switchClosed := i == .pad && s.switchReported, merged := 1
          entries := (entriesOf i (s.surface i).reporting (s.surface i).geometry s.slots).filter
            FrameEntry.closes })).1 = .deferred
    · obtain ⟨q, a, m, d, x, f, frame⟩ := s.offer_frame (s.surface i).lastTracked (low16 s.time) (.frameReport
        { surface := i, switchClosed := i == .pad && s.switchReported, merged := 1
          entries := (entriesOf i (s.surface i).reporting (s.surface i).geometry s.slots).filter FrameEntry.closes })
      exact .inl (by rw [deferred outcome, frame])
    · exact .inr ⟨_, by rw [placed outcome]⟩

/-! ## Slots at a surface end (R106) -/

/-- The slots of a surface that has ended: none is tracked, and the other surface's stand (R106). -/
def EndedSlots (i : SurfaceId) (before after : List Slot) : Prop :=
  after.length = before.length ∧
    (∀ (n : Nat) (k : Slot), before[n]? = some k → k.surface ≠ i → after[n]? = some k) ∧
    (∀ k ∈ after, k.surface = i → k.state = .free ∨ k.state = .ending)

theorem Slot.endEffect_state (k : Slot) : k.endEffect.state = .free ∨ k.endEffect.state = .ending := by
  unfold Slot.endEffect
  split
  · split
    · exact .inr rfl
    · exact .inl rfl
  · split
    · exact .inr rfl
    · exact .inl rfl
  · exact .inl rfl
  · split
    · exact .inr rfl
    · exact .inl rfl
  next ending => exact .inr ending
  next free => exact .inl free

theorem EndedSlots.endEffect (i : SurfaceId) (slots : List Slot) :
    EndedSlots i slots (slots.map (fun k => if k.ofSurface i then k.endEffect else k)) := by
  refine ⟨List.length_map _, fun n k at_n other => ?_, fun k mem own => ?_⟩
  · rw [List.getElem?_map, at_n, Option.map_some, if_neg (by simp [Slot.ofSurface, other])]
  · obtain ⟨k, -, rfl⟩ := List.mem_map.mp mem
    by_cases of : k.ofSurface i = true
    · rw [if_pos of]
      exact k.endEffect_state
    · rw [if_neg of] at own ⊢
      left
      by_contra live
      exact of (by simp [Slot.ofSurface, live, own])

theorem Slot.placed_state (entries : List FrameEntry) (k : Slot) (ending : k.state = .ending) :
    (k.placed entries).state = .free ∨ (k.placed entries).state = .ending := by
  unfold Slot.placed
  split
  · exact .inr ending
  · split
    · exact .inr ending
    · exact .inr ending
    · rw [if_pos (beq_iff_eq.mpr ending)]; exact .inl rfl
    · rw [if_pos (beq_iff_eq.mpr ending)]; exact .inl rfl

/-- A report of an ended surface applied to its slots (R104). -/
theorem EndedSlots.placed {i : SurfaceId} {before after : List Slot} (ended : EndedSlots i before after)
    (entries : List FrameEntry) :
    EndedSlots i before (after.map (fun k => if k.ofSurface i then k.placed entries else k)) := by
  obtain ⟨length, others, own⟩ := ended
  refine ⟨by rw [List.length_map, length], fun n k at_n other => ?_, fun k mem isOwn => ?_⟩
  · rw [List.getElem?_map, others n k at_n other, Option.map_some, if_neg (by simp [Slot.ofSurface, other])]
  · obtain ⟨k, before, rfl⟩ := List.mem_map.mp mem
    by_cases of : k.ofSurface i = true
    · rw [if_pos of]
      obtain ⟨live, surface⟩ : k.state ≠ .free ∧ k.surface = i := by simpa [Slot.ofSurface] using of
      exact k.placed_state entries ((own k before surface).resolve_left live)
    · rw [if_neg of] at isOwn ⊢
      exact own k before isOwn

/-- The slots of a surface that ends or is rebased, up to its closing-only report (R103, R106). -/
theorem EndedSlots.closingOnlyReport {i : SurfaceId} {before : List Slot} (ended : EndedSlots i before s.slots) :
    EndedSlots i before (s.closingOnlyReport i).slots := by
  obtain same | ⟨entries, placed⟩ := s.closingOnlyReport_slots i
  · rw [same]; exact ended
  · rw [placed]; exact ended.placed entries

/-- R106's table, row by row. -/
theorem Slot.endEffect_rows (k : Slot) :
    ((k.state = .active ∨ k.state = .held) → k.announced = true → k.closed = false →
      k.endEffect = { k with
        state := .ending, reason := none
        closing := some (k.closing.getD { kind := .cancel, x := k.x, y := k.y, touch := k.touch, area := k.area,
                                          peak := k.peak, held := k.state == .held }) }) ∧
    ((k.state = .active ∨ k.state = .held) → (k.announced = false ∨ k.closed = true) → k.endEffect = .cleared) ∧
    (k.state = .tentative → k.endEffect = .cleared) ∧
    (k.state = .suppressed → k.closing ≠ none → k.endEffect = { k with state := .ending, reason := none }) ∧
    (k.state = .suppressed → k.closing = none → k.endEffect = .cleared) ∧
    (k.state = .ending → k.endEffect = k) := by
  refine ⟨?_, ?_, fun tentative => ?_, fun suppressed closing => ?_, fun suppressed none => ?_, fun ending => ?_⟩
  · intro state announced notClosed
    have open_ : (k.announced && !k.closed) = true := by simp [announced, notClosed]
    have closes : k.endEffect = (k.setClosing .cancel).toEnding := by
      obtain state | state := state
      · rw [Slot.endEffect, state]; exact if_pos open_
      · rw [Slot.endEffect, state]; exact if_pos open_
    exact closes
  · rintro (state | state) (announced | closed)
    · rw [Slot.endEffect, state]; simp [announced]
    · rw [Slot.endEffect, state]; simp [closed]
    · rw [Slot.endEffect, state]; simp [announced]
    · rw [Slot.endEffect, state]; simp [closed]
  · rw [Slot.endEffect, tentative]
  · rw [Slot.endEffect, suppressed]
    exact if_pos (Option.isSome_iff_ne_none.mpr closing)
  · rw [Slot.endEffect, suppressed]
    exact if_neg (by simp [none])
  · rw [Slot.endEffect, ending]

/-! ## The engine and the pen (R144, R158) -/

/-- The engine after a cancellation outside a frame, its pending END apart (R157, R158). -/
def State.cancelledEngine (s : State) : Gesture :=
  if padClear s.slots && s.pad.reporting.holds s.posture && s.pad.reporting.hasGestures
    then s.gesture.block.unblock else s.gesture.block

/-- The END of a cancellation outside a frame (R158). -/
def State.cancelEnd (s : State) : PendingEnd :=
  { number := s.gesture.number, reason := .cancelled, sequence := s.pad.lastTracked, timestamp := low16 s.time }

theorem State.cancelOutside_of_notCommitted (idle : s.gesture.state ≠ .committed) :
    s.cancelOutside = { s with gesture := s.cancelledEngine } :=
  if_neg (by simpa using idle)

/-- The END CANCELLED of a cancellation, placed or left pending (R158, R160). -/
theorem State.cancelOutside_of_committed (committed : s.gesture.state = .committed) :
    let o := State.offer { s with gesture := s.cancelledEngine } s.pad.lastTracked (low16 s.time)
      (.gestureEnd s.gesture.number .cancelled 1)
    s.cancelOutside = { o.2 with gesture := { s.cancelledEngine with
      pendingEnd := if o.1 = .deferred then some s.cancelEnd else none } } := by
  intro o
  have run : s.cancelOutside = State.offerEnd { s with gesture := s.cancelledEngine } s.cancelEnd :=
    if_pos (beq_iff_eq.mpr committed)
  have pending : (if o.1.placed then none else some s.cancelEnd) =
      if o.1 = .deferred then some s.cancelEnd else none := by
    by_cases deferred : o.1 = .deferred
    · rw [if_pos deferred, if_neg (by simp [deferred, Placement.placed])]
    · rw [if_neg deferred, if_pos ((State.offer_placed_iff rfl).mpr deferred)]
  rw [run, State.offerEnd_eq]
  change o.2.withGesture { s.cancelledEngine with pendingEnd := if o.1.placed then none else some s.cancelEnd } = _
  rw [pending]
  rfl

/-- A cancellation leaves the engine IDLE or BLOCKED with no committed gesture (R157). -/
theorem State.cancelOutside_gesture :
    (s.cancelOutside.gesture.state = .idle ∨ s.cancelOutside.gesture.state = .blocked) ∧
      s.cancelOutside.gesture.committed = none := by
  have engine : (s.cancelledEngine.state = .idle ∨ s.cancelledEngine.state = .blocked) ∧
      s.cancelledEngine.committed = none := by
    unfold State.cancelledEngine
    split
    · exact ⟨.inl rfl, rfl⟩
    · exact ⟨.inr rfl, rfl⟩
  by_cases committed : s.gesture.state = .committed
  · rw [State.cancelOutside_of_committed committed]
    exact engine
  · rw [State.cancelOutside_of_notCommitted committed]
    exact engine

/-- PAD has no slot but FREE and ENDING ones (R157). -/
theorem padClear_iff {slots : List Slot} :
    padClear slots = true ↔ ∀ k ∈ slots, k.surface = .pad → k.state = .free ∨ k.state = .ending := by
  have untracked (state : SlotState) : state.tracked = false ↔ state = .free ∨ state = .ending := by
    cases state <;> simp [SlotState.tracked]
  simp [padClear, Slot.candidate, untracked]

theorem Reporting.hasGestures_iff (rep : Reporting) : rep.hasGestures = true ↔ rep.mode ≠ .contacts := by
  simp [Reporting.hasGestures]

/-- The pen's surface end without a report (R144). -/
theorem State.endPen_of_silent (silent : ¬ (s.pen.state ≠ .outOfRange ∧
    s.panel.reporting.mask.getLsbD (codeIn postureOrder s.posture) = true)) : s.endPen = { s with
      pen := { s.pen.clearData with state := .outOfRange, coasting := false, missing := 0 }, linger := none } := by
  unfold State.endPen
  extract_lets before out done
  by_cases away : s.pen.state = .outOfRange
  · exact if_pos (beq_iff_eq.mpr away)
  · rw [if_neg (by simpa using away)]
    exact if_neg fun holds => silent ⟨away, holds⟩

/-- The pen's surface end reports a pen in range as out of range (R140, R144). -/
theorem State.endPen_of_reports (inRange : s.pen.state ≠ .outOfRange)
    (unmasked : s.panel.reporting.mask.getLsbD (codeIn postureOrder s.posture) = true) : s.endPen =
      (State.offer { s with
        pen := { s.pen.clearData with state := .outOfRange, coasting := false, missing := 0 }, linger := none }
        s.pen.lastSequence (low16 s.time) (.penReport (penReportOf s.panel.reporting s.panel.geometry s.curve
          { s.pen with state := .outOfRange, coasting := false, missing := 0 }))).2 := by
  unfold State.endPen
  extract_lets before out done
  rw [if_neg (by simpa using inRange)]
  exact if_pos unmasked

theorem State.endPen_pen : s.endPen.pen = { s.pen.clearData with state := .outOfRange, coasting := false, missing := 0 } := by
  by_cases reports : s.pen.state ≠ .outOfRange ∧
      s.panel.reporting.mask.getLsbD (codeIn postureOrder s.posture) = true
  · obtain ⟨inRange, unmasked⟩ := reports
    rw [State.endPen_of_reports inRange unmasked]
    obtain ⟨q, a, m, d, x, f, frame⟩ := State.offer_frame { s with
        pen := { s.pen.clearData with state := .outOfRange, coasting := false, missing := 0 }, linger := none }
        s.pen.lastSequence (low16 s.time) (.penReport (penReportOf s.panel.reporting s.panel.geometry s.curve
          { s.pen with state := .outOfRange, coasting := false, missing := 0 }))
    rw [frame]
  · rw [State.endPen_of_silent reports]

/-! ## The whole surface end (R14) -/

/-- The state in which a surface end builds its first record (R12, R13, R106). -/
def State.endBefore (s : State) (i : SurfaceId) (status : SurfaceState) : State :=
  { s with
    headWaited := s.headWaited || s.headWaits
    slots := s.slots.map (fun k : Slot => if k.ofSurface i then k.endEffect else k) }.withSurface i
      ((s.surface i).ended status)

/-- A surface end up to the effect on the engine or the pen (R103, R144, R158). -/
def State.endOwned (s : State) (i : SurfaceId) (status : SurfaceState) : State :=
  ((s.endBefore i status).closingOnlyReport i).endOwner i

theorem State.endSurface_eq (i : SurfaceId) (status : SurfaceState) :
    s.endSurface i status = (s.endOwned i status).abortCapture i := by
  cases i <;> rfl

theorem State.endOwner_frame (i : SurfaceId) : (s.endOwner i).slots = s.slots ∧
    (s.endOwner i).pendingCapture = s.pendingCapture ∧ (s.endOwner i).time = s.time := by
  cases i with
  | pad =>
    obtain ⟨q, a, m, d, x, f, g, frame⟩ := s.cancelOutside_frame
    rw [show s.endOwner .pad = _ from frame]
    exact ⟨rfl, rfl, rfl⟩
  | panel =>
    obtain ⟨q, a, m, d, x, f, p, frame⟩ := s.endPen_frame
    rw [show s.endOwner .panel = _ from frame]
    exact ⟨rfl, rfl, rfl⟩

/-- What is left of the time, the capture, the engine and the pen before the effect on the engine or the pen. -/
theorem State.endReported_frame (i : SurfaceId) (status : SurfaceState) :
    let reported := (s.endBefore i status).closingOnlyReport i
    reported.time = s.time ∧ reported.pendingCapture = s.pendingCapture ∧ reported.gesture = s.gesture ∧
      reported.pen = s.pen ∧ reported.linger = s.linger := by
  obtain ⟨q, a, m, d, x, f, l, w, frame⟩ := (s.endBefore i status).closingOnlyReport_frame i
  intro reported
  rw [show reported = _ from frame]
  cases i <;> exact ⟨rfl, rfl, rfl, rfl, rfl⟩

theorem State.endOwned_slots (i : SurfaceId) (status : SurfaceState) :
    EndedSlots i s.slots (s.endOwned i status).slots := by
  obtain ⟨slots, -, -⟩ := State.endOwner_frame (s := (s.endBefore i status).closingOnlyReport i) i
  have before : EndedSlots i s.slots (s.endBefore i status).slots := by
    cases i <;> exact EndedSlots.endEffect _ _
  rw [State.endOwned, slots]
  exact before.closingOnlyReport

theorem State.abortCapture_slots (i : SurfaceId) : (s.abortCapture i).slots = s.slots ∧
    (s.abortCapture i).gesture = s.gesture ∧ (s.abortCapture i).pen = s.pen ∧
    (s.abortCapture i).linger = s.linger := by
  obtain ⟨same, -⟩ | ⟨c, -, -, aborted⟩ := s.abortCapture_cases i
  · rw [same]; exact ⟨rfl, rfl, rfl, rfl⟩
  · rw [aborted]; exact ⟨rfl, rfl, rfl, rfl⟩

/-- Settles O21. -/
theorem surfaceEndLeavesNothingTracked : Obligations.SurfaceEndLeavesNothingTracked := by
  refine ⟨fun s i status => ?whole, fun k => k.endEffect_rows, fun u i => ?report, fun u => ?engine, fun u => ?pen⟩
  case whole =>
    intro t ended before reported owned
    obtain ⟨time, capture, gesture, pen, linger⟩ := s.endReported_frame i status
    obtain ⟨ownerSlots, ownerCapture, ownerTime⟩ :=
      State.endOwner_frame (s := (s.endBefore i status).closingOnlyReport i) i
    have owned_eq : s.endOwned i status = owned := by cases i <;> rfl
    have t_eq : t = (s.endOwned i status).abortCapture i := s.endSurface_eq i status
    have ownedCapture : (s.endOwned i status).pendingCapture = s.pendingCapture := ownerCapture.trans capture
    have ownedTime : (s.endOwned i status).time = s.time := ownerTime.trans time
    obtain ⟨slots, finalGesture, finalPen, finalLinger⟩ := State.abortCapture_slots (s := s.endOwned i status) i
    rw [← t_eq] at slots finalGesture finalPen finalLinger
    obtain ⟨length, others, own⟩ := s.endOwned_slots i status
    obtain ⟨q, a, m, d, x, f, l, w, g, p, n, c, frame⟩ := s.endSurface_frame i status
    have frame : t = _ := frame
    refine ⟨?records, ?surface, ?otherSurface, by rw [slots]; exact length, by rw [slots]; exact others,
      by rw [slots]; exact own, ?aborted, ?noCapture, ?padLeft, ?panelLeft, ?frame⟩
    case records =>
      cases pending : s.pendingCapture with
      | none =>
        have stands : (s.endOwned i status).abortCapture i = s.endOwned i status := by
          rw [State.abortCapture, ownedCapture.trans pending]
        exact t_eq.trans (stands.trans owned_eq)
      | some c =>
        by_cases isOwn : c.surface = i
        · have aborted : (s.endOwned i status).abortCapture i =
              State.append { s.endOwned i status with pendingCapture := none } c.tag (low16 s.time)
                (.response 11 .aborted []) := by
            rw [State.abortCapture, ownedCapture.trans pending, ← ownedTime]
            exact if_pos (beq_iff_eq.mpr isOwn)
          refine t_eq.trans (aborted.trans ?_)
          rw [owned_eq]
          exact (if_pos isOwn).symm
        · have stands : (s.endOwned i status).abortCapture i = s.endOwned i status := by
            rw [State.abortCapture, ownedCapture.trans pending]
            exact if_neg (by simpa using isOwn)
          exact t_eq.trans (stands.trans (owned_eq.trans (if_neg isOwn).symm))
    case surface => rw [frame, State.withSurface_surface]; rfl
    case otherSurface =>
      intro j other
      rw [frame, State.withSurface_surface_ne (h := other)]
      cases j <;> rfl
    case aborted =>
      intro c pending
      obtain ⟨same, notOwn⟩ | ⟨c', pending', isOwn, aborted⟩ := State.abortCapture_cases (s := s.endOwned i status) i
      · rw [if_neg (notOwn c (ownedCapture.trans pending)), t_eq, same, ownedCapture, pending]
      · obtain rfl : c' = c := Option.some.inj (pending'.symm.trans (ownedCapture.trans pending))
        rw [if_pos isOwn, t_eq, aborted]
        rfl
    case noCapture =>
      intro none
      obtain ⟨same, -⟩ | ⟨c', pending', -, -⟩ := State.abortCapture_cases (s := s.endOwned i status) i
      · rw [t_eq, same, ownedCapture, none]
      · rw [ownedCapture, none] at pending'
        cases pending'
    case padLeft =>
      rintro rfl
      obtain ⟨q, a, m, d, x, f, g, cancelled⟩ :=
        State.cancelOutside_frame (s := (s.endBefore .pad status).closingOnlyReport .pad)
      have owner : s.endOwned .pad status = _ := cancelled
      obtain ⟨state, committed⟩ :=
        State.cancelOutside_gesture (s := (s.endBefore .pad status).closingOnlyReport .pad)
      refine ⟨by rw [finalGesture]; exact state, by rw [finalGesture]; exact committed, ?_, ?_⟩
      · rw [finalPen, owner]; exact pen
      · rw [finalLinger, owner]; exact linger
    case panelLeft =>
      rintro rfl
      obtain ⟨q, a, m, d, x, f, p, away⟩ :=
        State.endPen_frame (s := (s.endBefore .panel status).closingOnlyReport .panel)
      have owner : s.endOwned .panel status = _ := away
      refine ⟨?_, ?_, ?_⟩
      · rw [finalPen, ← pen]
        exact State.endPen_pen
      · rw [finalLinger, owner]
      · rw [finalGesture, owner]; exact gesture
    case frame =>
      change s.endSurface i status = { s with
        pad := (s.endSurface i status).pad, panel := (s.endSurface i status).panel
        slots := (s.endSurface i status).slots, switchReported := (s.endSurface i status).switchReported
        gesture := (s.endSurface i status).gesture, pen := (s.endSurface i status).pen
        linger := (s.endSurface i status).linger, pendingCapture := (s.endSurface i status).pendingCapture
        queue := (s.endSurface i status).queue, attn := (s.endSurface i status).attn
        mergedCount := (s.endSurface i status).mergedCount, deferredCount := (s.endSurface i status).deferredCount
        droppedCount := (s.endSurface i status).droppedCount, headWaited := s.headWaited || s.headWaits
        fault := (s.endSurface i status).fault }
      rw [show s.endSurface i status = _ from frame]
      cases i <;> rfl
  case report =>
    intro v entries o
    refine ⟨fun none => u.closingOnlyReport_of_none i none, fun some => ?_, fun some => ?_⟩
    · exact (u.closingOnlyReport_of_some i entries rfl some).1
    · exact (u.closingOnlyReport_of_some i entries rfl some).2
  case engine =>
    intro g clear
    have clears : (padClear u.slots && u.pad.reporting.holds u.posture && u.pad.reporting.hasGestures) = true ↔ clear := by
      rw [Bool.and_eq_true, Bool.and_eq_true, padClear_iff, Reporting.hasGestures_iff, and_assoc]
      rfl
    refine ⟨u.cancelledEngine, fun isClear => ?_, fun notClear => ?_, fun idle => ?_, fun committed => ?_⟩
    · exact if_pos (clears.mpr isClear)
    · exact if_neg (mt clears.mp notClear)
    · exact State.cancelOutside_of_notCommitted idle
    · exact State.cancelOutside_of_committed committed
  case pen =>
    intro left shown reports
    exact ⟨fun silent => State.endPen_of_silent silent, fun ⟨inRange, unmasked⟩ => State.endPen_of_reports inRange unmasked⟩

end Sys2Proof.Machine
end

section
/-! PROOFS. The baseline unit: captures, acquisition, the delta image, drift and the anomaly test (R37 to R48). -/

namespace Sys2Proof.Machine

variable {s : State} {v : Surface}

/-! ## Nodes of an image (R38) -/

theorem nodeAt_eq_some {image : Image} {d k : Nat} {x : Int} :
    nodeAt image d k = some x ↔ ∃ row, image[d]? = some row ∧ row[k]? = some x := by
  simp [nodeAt, Option.bind_eq_some_iff]

/-- Two images combined, at a node of both. -/
theorem nodeAt_zipImages (f : Int → Int → Int) {a b : Image} {d k : Nat} {x y : Int}
    (inA : nodeAt a d k = some x) (inB : nodeAt b d k = some y) : nodeAt (zipImages f a b) d k = some (f x y) := by
  obtain ⟨rowA, atA, inRowA⟩ := nodeAt_eq_some.mp inA
  obtain ⟨rowB, atB, inRowB⟩ := nodeAt_eq_some.mp inB
  refine nodeAt_eq_some.mpr ⟨List.zipWith f rowA rowB, ?_, ?_⟩
  · simp [zipImages, List.getElem?_zipWith, atA, atB]
  · simp [List.getElem?_zipWith, inRowA, inRowB]

theorem nodeAt_getD {image : Image} {d k : Nat} {x : Int} (at_node : nodeAt image d k = some x) :
    (image.getD d []).getD k 0 = x := by
  obtain ⟨row, atRow, inRow⟩ := nodeAt_eq_some.mp at_node
  simp [List.getD_eq_getElem?_getD, atRow, inRow]

theorem Surface.liveNode_iff {d k : Nat} : v.liveNode d k = true ↔ d ∉ v.deadDrive ∧ k ∉ v.deadSense := by
  simp [Surface.liveNode]

/-- The deltas of the live nodes (R39). -/
theorem Surface.mem_liveDeltas {image : Image} {x : Int} : x ∈ v.liveDeltas image ↔
    ∃ d k, nodeAt image d k = some x ∧ d ∉ v.deadDrive ∧ k ∉ v.deadSense := by
  simp only [Surface.liveDeltas, List.mem_flatMap, List.mem_filterMap, Prod.exists, List.mem_zipIdx_iff_getElem?,
    nodeAt_eq_some, Option.ite_none_right_eq_some, Surface.liveNode_iff, Option.some.injEq]
  constructor
  · rintro ⟨row, d, atRow, y, k, inRow, live, rfl⟩
    exact ⟨d, k, ⟨row, atRow, inRow⟩, live⟩
  · rintro ⟨d, k, ⟨row, atRow, inRow⟩, live⟩
    exact ⟨row, d, atRow, x, k, inRow, live, rfl⟩

theorem Surface.anomalous_iff {formed : Image} : v.anomalous formed = true ↔
    ∃ x ∈ v.liveDeltas formed, x ≤ -(v.detection.negativeThreshold : Int) := by
  simp [Surface.anomalous]

/-! ## The delta and the drift of a node (R38, R45) -/

theorem Surface.nodeAt_delta {raw : Image} {d k : Nat} {r b : Int} (isRaw : nodeAt raw d k = some r)
    (isBase : nodeAt v.baseline d k = some b) :
    nodeAt (v.delta raw) d k = some (deltaOf v.geometry.polarity r b) :=
  nodeAt_zipImages _ isRaw isBase

/-- Drift leaves a node that is dead or touched, and moves any other (R45). -/
theorem Surface.nodeAt_drifted {raw formed : Image} {d k : Nat} {r b x : Int} (isRaw : nodeAt raw d k = some r)
    (isBase : nodeAt v.baseline d k = some b) (isFormed : nodeAt formed d k = some x) :
    nodeAt (v.drifted raw formed) d k = some
      (if v.liveNode d k && decide (x.natAbs < v.detection.touchThreshold) then driftNode v.detection.driftStep r b
        else b) := by
  obtain ⟨row, atRow, inRow⟩ := nodeAt_eq_some.mp isBase
  simp only [nodeAt, Surface.drifted, List.getElem?_map, List.getElem?_zipIdx, atRow, inRow, nodeAt_getD isRaw,
    nodeAt_getD isFormed, Option.map_some, Option.bind_some, Nat.zero_add]

/-- A drift step moves toward the raw value, and not past it (R45). -/
theorem driftNode_moves (step : Nat) (r b : Int) :
    (driftNode step r b - b).natAbs = min (r - b).natAbs step ∧
      (b ≤ r → b ≤ driftNode step r b ∧ driftNode step r b ≤ r) ∧
      (r ≤ b → r ≤ driftNode step r b ∧ driftNode step r b ≤ b) := by
  unfold driftNode
  split <;> omega

/-- Settles O25. -/
theorem deltaAndDriftAtEveryNode : Obligations.DeltaAndDriftAtEveryNode := by
  intro v raw d k r b isRaw isBase
  have delta := Surface.nodeAt_delta isRaw isBase
  refine ⟨fun positive => ?_, fun negative => ?_, fun r0 r4095 b0 b4095 => ?_, fun formed x isFormed => ?_⟩
  · rw [delta, positive]
    rfl
  · rw [delta, negative]
    rfl
  · rw [delta]
    cases v.geometry.polarity
    · simp only [deltaOf, clamp16, clampInt, if_true, Option.some.injEq]
      omega
    · simp only [deltaOf, clamp16, clampInt, reduceCtorEq, if_false, Option.some.injEq]
      omega
  · refine ⟨_, Surface.nodeAt_drifted isRaw isBase isFormed, fun stays => ?_, fun liveDrive liveSense untouched => ?_⟩
    · refine if_neg fun moves => ?_
      rw [Bool.and_eq_true, Surface.liveNode_iff, decide_eq_true_iff] at moves
      obtain ⟨⟨liveDrive, liveSense⟩, untouched⟩ := moves
      obtain dead | dead | touched := stays
      · exact liveDrive dead
      · exact liveSense dead
      · omega
    · have live := Surface.liveNode_iff.mpr ⟨liveDrive, liveSense⟩
      rw [if_pos (by rw [live, decide_eq_true untouched]; rfl)]
      exact driftNode_moves _ r b

/-! ## Captures (R48) -/

theorem stamp_eq_bytes (t : BitVec 32) : stamp (low16 t) = [t.setWidth 8, (t >>> 8).setWidth 8] := by
  have low : (low16 t).extractLsb' 0 8 = t.setWidth 8 := by
    apply BitVec.eq_of_toNat_eq
    simp only [low16, BitVec.extractLsb'_toNat, BitVec.toNat_setWidth, Nat.shiftRight_eq_div_pow]
    omega
  have high : (low16 t).extractLsb' 8 8 = (t >>> 8).setWidth 8 := by
    apply BitVec.eq_of_toNat_eq
    simp only [low16, BitVec.extractLsb'_toNat, BitVec.toNat_setWidth, BitVec.toNat_ushiftRight,
      Nat.shiftRight_eq_div_pow]
    omega
  rw [stamp, low, high]

theorem State.serveCapture_of_none {i : SurfaceId} {kind : CaptureKind} {f : ImageFrame} {image : Image}
    (none : s.pendingCapture = none) : s.serveCapture i kind f image = s := by
  rw [State.serveCapture, none]

theorem State.serveCapture_of_other {i : SurfaceId} {kind : CaptureKind} {f : ImageFrame} {image : Image}
    {c : PendingCapture} (pending : s.pendingCapture = some c) (other : c.surface ≠ i ∨ c.kind ≠ kind) :
    s.serveCapture i kind f image = s := by
  rw [State.serveCapture, pending]
  exact if_neg (by simpa [imp_iff_not_or] using other)

/-- What a served capture leaves (R48). -/
theorem State.serveCapture_of_own {i : SurfaceId} {kind : CaptureKind} {f : ImageFrame} {image : Image}
    {c : PendingCapture} (pending : s.pendingCapture = some c) (own : c.surface = i) (ownKind : c.kind = kind) :
    let content : CaptureBuffer :=
      { surface := i, kind := kind, driveLines := (s.surface i).geometry.driveLines,
        senseLines := (s.surface i).geometry.senseLines, sequence := f.sequence, arrival := f.arrival, valid := true,
        image := image }
    s.serveCapture i kind f image = { s with
      pendingCapture := none, captureBuffer := some content
      queue := s.queue ++ [{ sequence := c.tag, timestamp := low16 s.time, placed := s.time,
                             body := .response 11 .ok content.responseData }]
      attn := s.started } := by
  intro content
  have serves : (c.surface == i && c.kind == kind) = true := by simp [own, ownKind]
  have run : s.serveCapture i kind f image =
      ((s.withCaptureBuffer (some content)).withPendingCapture none).respond c.tag 11 .ok content.responseData := by
    rw [State.serveCapture, pending]
    exact if_pos serves
  rw [run, State.respond_eq]
  rfl

theorem State.noteWait_serveCapture (i : SurfaceId) (kind : CaptureKind) (f : ImageFrame) (image : Image) :
    (s.serveCapture i kind f image).noteWait = s.noteWait.serveCapture i kind f image := by
  cases pending : s.pendingCapture with
  | none => rw [State.serveCapture_of_none pending, State.serveCapture_of_none (s := s.noteWait) pending]
  | some c =>
    by_cases own : c.surface = i ∧ c.kind = kind
    · obtain ⟨surface, ofKind⟩ := own
      rw [State.serveCapture_of_own pending surface ofKind,
        State.serveCapture_of_own (s := s.noteWait) pending surface ofKind]
      cases i <;> rfl
    · have other := not_and_or.mp own
      rw [State.serveCapture_of_other pending other, State.serveCapture_of_other (s := s.noteWait) pending other]

/-- Serving a capture changes the capture, its buffer, and the queue with the pin. -/
theorem State.serveCapture_frame (i : SurfaceId) (kind : CaptureKind) (f : ImageFrame) (image : Image) :
    ∃ c b q a, s.serveCapture i kind f image =
      { s with pendingCapture := c, captureBuffer := b, queue := q, attn := a } := by
  cases pending : s.pendingCapture with
  | none => exact ⟨_, _, _, _, State.serveCapture_of_none pending⟩
  | some c =>
    by_cases own : c.surface = i ∧ c.kind = kind
    · obtain ⟨surface, ofKind⟩ := own
      exact ⟨_, _, _, _, State.serveCapture_of_own pending surface ofKind⟩
    · exact ⟨_, _, _, _, State.serveCapture_of_other pending (not_and_or.mp own)⟩

/-! ## Acquisition (R40, R41) -/

theorem exec_baselineStage (started : s.started = true) (i : SurfaceId) :
    exec (.baselineStage i) s = .next (s.baselineStage i) :=
  congrArg Host.Outcome.next (if_pos started)

/-- Settles O22. -/
theorem acquisitionFramesFormTheBaseline : Obligations.AcquisitionFramesFormTheBaseline := by
  refine ⟨fun s i f started taken acquiring => ?stage, fun s i kind f image => ?serve⟩
  case stage =>
    intro v image sums n w done
    have row : exec (.baselineStage i) s = .next (s.acquisitionStage i f) := by
      rw [exec_baselineStage started, State.baselineStage, taken, acquiring]
    have acquires : v.acquire image = w := by
      unfold Surface.acquire
      by_cases last : v.detection.acquireFrames ≤ v.collected + 1
      · exact (if_pos last).trans (if_neg (not_lt.mpr last)).symm
      · exact (if_neg last).trans (if_pos (not_le.mp last)).symm
    rw [row, State.acquisitionStage]
    change Host.Outcome.next (((s.noteWait.serveCapture i .raw f image).withSurface i (v.acquire image)).imageCompletes i)
      = _
    rw [acquires, State.imageCompletes]
    cases i <;> rfl
  case serve =>
    intro v
    refine ⟨fun none => State.serveCapture_of_none none, fun c pending other => State.serveCapture_of_other pending other,
      fun c pending own ownKind => ?_⟩
    intro data
    have data_eq : CaptureBuffer.responseData
        { surface := i, kind := kind, driveLines := v.geometry.driveLines, senseLines := v.geometry.senseLines,
          sequence := f.sequence, arrival := f.arrival, valid := true, image := image } = data := by
      rw [CaptureBuffer.responseData, stamp_eq_bytes]
      cases i <;> cases kind <;> rfl
    rw [State.serveCapture_of_own pending own ownKind, ← data_eq]

/-! ## RUNNING frames (R43 to R47) -/

theorem SlotState.tracked_iff (state : SlotState) : state.tracked = true ↔
    state = .tentative ∨ state = .active ∨ state = .held ∨ state = .suppressed := by
  cases state <;> simp [SlotState.tracked]

/-- Drift is frozen by a tracked slot of the surface (R44). -/
theorem State.driftFrozen_iff (i : SurfaceId) : s.driftFrozen i = true ↔ ∃ k ∈ s.slots, k.surface = i ∧
    (k.state = .tentative ∨ k.state = .active ∨ k.state = .held ∨ k.state = .suppressed) := by
  simp [State.driftFrozen, Slot.candidate, SlotState.tracked_iff]

/-- A RUNNING frame rebases at its last anomaly, and otherwise hands on its delta (R43 to R47). -/
theorem State.runningStage_eq (i : SurfaceId) (f : ImageFrame) :
    let v := s.surface i
    let raw := v.mapImage f.samples
    let formed := v.delta raw
    let served := (s.serveCapture i .raw f (v.substitute raw)).serveCapture i .delta f (v.substitute formed)
    let rebases := v.anomalous formed = true ∧ v.detection.anomalyFrames ≤ v.anomalyCount + 1
    (rebases → s.runningStage i f = served.automaticRebase i f (v.lowestMagnitude formed)) ∧
    (¬ rebases → s.runningStage i f = served.withSurface i { v with
      imageFlight := some { frame := f, progress := .baselined (v.substitute formed) (v.baselineUpdate (s.driftFrozen i)
        (if v.anomalous formed then v.anomalyCount + 1 else 0) raw formed) } }) := by
  intro v raw formed served rebases
  have last : (v.anomalous formed &&
      decide (v.detection.anomalyFrames ≤ if v.anomalous formed then v.anomalyCount + 1 else 0)) = true ↔ rebases := by
    rw [Bool.and_eq_true, decide_eq_true_iff]
    refine and_congr_right fun anomalous => ?_
    rw [if_pos anomalous]
  exact ⟨fun isLast => if_pos (last.mpr isLast), fun notLast => if_neg (mt last.mp notLast)⟩

/-- Settles O23. -/
theorem runningFramesHandOnTheirDelta : Obligations.RunningFramesHandOnTheirDelta := by
  refine ⟨fun v image x => Surface.mem_liveDeltas, fun s i f started taken running => ?_⟩
  intro v raw formed anomalous frozen notLast
  have row : exec (.baselineStage i) s = .next (s.runningStage i f) := by
    rw [exec_baselineStage started, State.baselineStage, taken, running]
  have anomalous_iff : v.anomalous formed = true ↔ anomalous := Surface.anomalous_iff
  have frozen_iff : s.driftFrozen i = true ↔ frozen := State.driftFrozen_iff i
  obtain ⟨-, handsOn⟩ := State.runningStage_eq (s := s) i f
  refine ⟨_, by rw [row, handsOn (by rw [anomalous_iff]; exact notLast)], ?_, ?_, ?_, ?_⟩
  · intro isAnomalous
    exact if_pos (anomalous_iff.mpr isAnomalous)
  · intro notAnomalous
    exact if_neg (mt anomalous_iff.mp notAnomalous)
  · intro early
    have notYet : ¬ v.detection.driftInterval ≤ v.driftCounter + 1 := by omega
    refine ⟨if_neg (by simpa using notYet), if_neg fun opportunity => ?_⟩
    rw [Bool.and_eq_true, decide_eq_true_iff] at opportunity
    exact notYet opportunity.1
  · intro due
    refine ⟨if_pos (decide_eq_true due), fun isFrozen => ?_, fun notFrozen => ?_⟩
    · exact if_neg (by rw [frozen_iff.mpr isFrozen]; simp)
    · exact if_pos (by rw [Bool.eq_false_iff.mpr (mt frozen_iff.mp notFrozen), decide_eq_true due]; rfl)

/-! ## The automatic rebase (R47) -/

/-- A record that is never dropped leaves the fault record as it was (R163). -/
theorem State.offer_fault_of_defers {q : Byte} {t : BitVec 16} {b : Body} (defers : b.defers = true) :
    (s.offer q t b).2.fault = s.fault := by
  obtain ⟨h, -⟩ | ⟨r, -, -, h⟩ | ⟨-, -, h⟩ | ⟨drops, -, h⟩ := s.offer_cases q t b
  · rw [h]; rfl
  · rw [h]; rfl
  · rw [h]
  · rw [defers] at drops; cases drops

/-- A closing-only report changes neither the fault record nor the switch state as reported (R101, R103). -/
theorem State.closingOnlyReport_keeps (i : SurfaceId) : (s.closingOnlyReport i).fault = s.fault ∧
    (s.closingOnlyReport i).switchReported = s.switchReported := by
  by_cases none : (entriesOf i (s.surface i).reporting (s.surface i).geometry s.slots).filter FrameEntry.closes = []
  · rw [s.closingOnlyReport_of_none i none]
    exact ⟨rfl, rfl⟩
  · obtain ⟨deferred, placed⟩ := s.closingOnlyReport_of_some i _ rfl none
    have offered (r : FrameReport) : (s.offer (s.surface i).lastTracked (low16 s.time) (.frameReport r)).2.fault = s.fault ∧
        (s.offer (s.surface i).lastTracked (low16 s.time) (.frameReport r)).2.switchReported = s.switchReported := by
      obtain ⟨q, a, m, d, x, f, frame⟩ := s.offer_frame (s.surface i).lastTracked (low16 s.time) (.frameReport r)
      exact ⟨State.offer_fault_of_defers rfl, by rw [frame]⟩
    by_cases outcome : (s.offer (s.surface i).lastTracked (low16 s.time) (.frameReport
        { surface := i, switchClosed := i == .pad && s.switchReported, merged := 1
          entries := (entriesOf i (s.surface i).reporting (s.surface i).geometry s.slots).filter
            FrameEntry.closes })).1 = .deferred
    · rw [deferred outcome]
      exact offered _
    · rw [placed outcome]
      exact offered _

theorem State.offerEnd_fault (e : PendingEnd) : (s.offerEnd e).fault = s.fault := by
  rw [State.offerEnd_eq]
  exact State.offer_fault_of_defers rfl

theorem State.retryEnd_fault : s.retryEnd.fault = s.fault := by
  unfold State.retryEnd
  split
  · exact State.offerEnd_fault _
  · rfl

theorem State.cancelOutside_fault : s.cancelOutside.fault = s.fault := by
  by_cases committed : s.gesture.state = .committed
  · rw [State.cancelOutside_of_committed committed]
    exact State.offer_fault_of_defers rfl
  · rw [State.cancelOutside_of_notCommitted committed]

/-- The closing-only report of a rebase and, on PAD, the cancellation and the retry of its END change no more than the
slots, the engine, and the queue with its counters (R11, R158, R160). -/
theorem State.rebaseReports_frame (i : SurfaceId) : ∃ q a m d x g,
    (if i = .pad then (s.closingOnlyReport i).cancelOutside.retryEnd else s.closingOnlyReport i) =
      { s with queue := q, attn := a, mergedCount := m, deferredCount := d, droppedCount := x
               slots := (s.closingOnlyReport i).slots, gesture := g } ∧ (i = .panel → g = s.gesture) := by
  obtain ⟨fault, switch⟩ := s.closingOnlyReport_keeps i
  obtain ⟨q, a, m, d, x, f, l, w, report⟩ := s.closingOnlyReport_frame i
  cases i with
  | panel =>
    refine ⟨q, a, m, d, x, s.gesture, ?_, fun _ => rfl⟩
    rw [report] at fault switch
    rw [if_neg (by decide), report]
    simp only at fault switch
    rw [fault, switch]
  | pad =>
    obtain ⟨q2, a2, m2, d2, x2, f2, g2, cancelled⟩ := (s.closingOnlyReport .pad).cancelOutside_frame
    obtain ⟨q3, a3, m3, d3, x3, f3, p3, retried⟩ := (s.closingOnlyReport .pad).cancelOutside.retryEnd_frame
    have cancelFault := (s.closingOnlyReport .pad).cancelOutside_fault
    have retryFault := (s.closingOnlyReport .pad).cancelOutside.retryEnd_fault
    refine ⟨q3, a3, m3, d3, x3, { g2 with pendingEnd := p3 }, ?_, nofun⟩
    have finalFault : f3 = s.fault := by
      rw [retried, cancelFault, fault] at retryFault
      exact retryFault
    have finalSwitch : w = s.switchReported := by
      rw [report] at switch
      exact switch
    rw [if_pos rfl, retried, cancelled, report, finalFault, finalSwitch]

/-- The record that a fault fills (R181). -/
def State.newFault (s : State) (kind : FaultKind) (source : FaultSource) (sequence : Byte) (detail : Nat) :
    FaultRecord :=
  { kind := kind, source := source, sequence := sequence, detail := detail, timestamp := low16 s.time, more := false }

theorem State.raiseFault_fault {kind : FaultKind} {source : FaultSource} {sequence : Byte} {detail : Nat}
    (empty : s.fault = none) (captured : s.queueBlock.captureMask.getLsbD (codeIn faultKindOrder kind) = true) :
    (s.raiseFault kind source sequence detail).fault = some (s.newFault kind source sequence detail) := by
  have raised : s.raiseFault kind source sequence detail =
      (s.withFault (some (s.newFault kind source sequence detail))).requestAlert
        (s.newFault kind source sequence detail) := by
    rw [State.raiseFault, captured, empty]
    rfl
  rw [raised]
  unfold State.requestAlert
  split <;> rfl

/-- A frame's images offered to the pending capture, RAW first (R48). -/
theorem State.servedTwice {i : SurfaceId} {f : ImageFrame} {raw delta : Image} {c : PendingCapture}
    (pending : s.pendingCapture = some c) :
    let served := (s.serveCapture i .raw f raw).serveCapture i .delta f delta
    (c.surface = i → c.kind ≠ .baseline → served.pendingCapture = none ∧
      served.captureBuffer = some { surface := i, kind := c.kind, driveLines := (s.surface i).geometry.driveLines,
                                    senseLines := (s.surface i).geometry.senseLines, sequence := f.sequence
                                    arrival := f.arrival, valid := true
                                    image := if c.kind = .raw then raw else delta }) ∧
    (c.surface ≠ i → served = s) := by
  intro served
  refine ⟨fun own notBaseline => ?_, fun other => ?_⟩
  · cases ofKind : c.kind with
    | raw =>
      have first := State.serveCapture_of_own (f := f) (image := raw) pending own ofKind
      have stands : served = s.serveCapture i .raw f raw := State.serveCapture_of_none (by rw [first])
      rw [stands, first]
      exact ⟨rfl, by rw [if_pos rfl]⟩
    | delta =>
      have first : s.serveCapture i .raw f raw = s := State.serveCapture_of_other pending (.inr (by simp [ofKind]))
      have second : served = s.serveCapture i .delta f delta := by simp only [served, first]
      rw [second, State.serveCapture_of_own pending own ofKind]
      exact ⟨rfl, by rw [if_neg (by decide)]⟩
    | baseline => exact absurd ofKind notBaseline
  · have first : s.serveCapture i .raw f raw = s := State.serveCapture_of_other pending (.inl other)
    have second : s.serveCapture i .delta f delta = s := State.serveCapture_of_other pending (.inl other)
    simp only [served, first, second]

theorem State.takeImage_eq (i : SurfaceId) :
    s.takeImage i = s.withSurface i ((s.surface i).imageTaken (s.holdsImage i)) :=
  State.takeImageUnless_eq _ i

/-- The state of an automatic rebase before its records, from the fault's state (R11, R47). -/
theorem State.rebaseSlots_of_flight (i : SurfaceId) :
    (s.withSurface i { s.surface i with imageFlight := none }).rebaseSlots i =
      ({ s with slots := s.slots.map (fun k : Slot => if k.ofSurface i then k.endEffect else k) }.withSurface i
        ({ s.surface i with imageFlight := none } : Surface).acquiring).closingOnlyReport i := by
  rw [State.rebaseSlots_eq]
  cases i <;> rfl

/-- Settles O24: the frame's images are served, the fault is raised, and the rebase's reports come before the frame's
completion. -/
theorem automaticRebaseRestartsAcquisition : Obligations.AutomaticRebaseRestartsAcquisition := by
  intro s i f started taken running v raw formed lowest counters served raised restarted reported anomalous last
  have row : exec (.baselineStage i) s = .next (s.runningStage i f) := by
    rw [exec_baselineStage started, State.baselineStage, taken, running]
  obtain ⟨rebases, -⟩ := State.runningStage_eq (s := s) i f
  -- The captures are served before the wait is noted, which makes no difference.
  have noted : ((s.serveCapture i .raw f (v.substitute raw)).serveCapture i .delta f (v.substitute formed)).noteWait =
      served := by
    rw [State.noteWait_serveCapture, State.noteWait_serveCapture]
    rfl
  obtain ⟨c1, b1, q1, a1, frame1⟩ := State.serveCapture_frame
    (s := { s with headWaited := s.headWaited || s.headWaits }) i .raw f (v.substitute raw)
  obtain ⟨c2, b2, q2, a2, frame2⟩ := State.serveCapture_frame
    (s := { s with headWaited := s.headWaited || s.headWaits }.serveCapture i .raw f (v.substitute raw)) i .delta f
    (v.substitute formed)
  have servedFrame : served = { s with
      headWaited := s.headWaited || s.headWaits, pendingCapture := c2, captureBuffer := b2, queue := q2, attn := a2 } := by
    rw [show served = _ from frame2, frame1]
  obtain ⟨f3, q3, a3, frame3⟩ := State.raiseFault_frame (served.withSurface i { v with counters := counters })
    .autoRebase (linkSource i) f.sequence lowest
  have servedSurface : served.surface i = v := by
    rw [servedFrame]
    cases i <;> rfl
  have raisedFrame : raised = { s with
      headWaited := s.headWaited || s.headWaits, pendingCapture := c2, captureBuffer := b2, queue := q3, attn := a3
      fault := f3 }.withSurface i { v with counters := counters } := by
    rw [show raised = _ from frame3, servedFrame]
    cases i <;> rfl
  have raisedSurface : raised.surface i = { v with counters := counters } := by
    rw [raisedFrame, State.withSurface_surface]
  have raisedSlots : raised.slots = s.slots := by
    rw [raisedFrame]
    cases i <;> rfl
  -- The rebase and its reports.
  obtain ⟨q, a, m, d, x, g, reports, panelEngine⟩ := restarted.rebaseReports_frame i
  have run : s.runningStage i f = (if i = .pad then reported.cancelOutside.retryEnd else reported).takeImage i := by
    have counted : (served.countLink i fun c => { c with autoRebases := bump c.autoRebases 1 }) =
        served.withSurface i { v with counters := counters } := by
      rw [State.countLink, servedSurface]
      rfl
    have slots : (raised.withSurface i { raised.surface i with imageFlight := none }).rebaseSlots i = reported := by
      rw [State.rebaseSlots_of_flight, raisedSlots, raisedSurface]
      rfl
    rw [rebases ⟨Surface.anomalous_iff.mpr anomalous, last⟩, State.automaticRebase, noted, counted]
    change (if (i == .pad) = true then
      ((raised.withSurface i { raised.surface i with imageFlight := none }).rebaseSlots i).cancelOutside else
      (raised.withSurface i { raised.surface i with imageFlight := none }).rebaseSlots i).imageCompletes i = _
    rw [slots]
    cases i <;> rfl
  have restartedFrame : restarted = { s with
      headWaited := s.headWaited || s.headWaits, pendingCapture := c2, captureBuffer := b2, queue := q3, attn := a3
      fault := f3, slots := s.slots.map (fun k : Slot => if k.ofSurface i then k.endEffect else k) }.withSurface i
        { v with
          counters := counters, status := .acquiring, imageFlight := none, sums := v.geometry.zeroImage, collected := 0
          driftCounter := 0, anomalyCount := 0 } := by
    change { raised with slots := _ }.withSurface i _ = _
    rw [raisedFrame]
    cases i <;> rfl
  have finished : (if i = .pad then reported.cancelOutside.retryEnd else reported) = { s with
      headWaited := s.headWaited || s.headWaits, pendingCapture := c2, captureBuffer := b2, queue := q, attn := a
      mergedCount := m, deferredCount := d, droppedCount := x, fault := f3, slots := reported.slots
      gesture := g }.withSurface i { v with
          counters := counters, status := .acquiring, imageFlight := none, sums := v.geometry.zeroImage, collected := 0
          driftCounter := 0, anomalyCount := 0 } := by
    refine reports.trans ?_
    change { restarted with
      queue := q, attn := a, mergedCount := m, deferredCount := d, droppedCount := x
      slots := reported.slots, gesture := g } = _
    generalize reported.slots = slots
    rw [restartedFrame]
    cases i <;> rfl
  obtain ⟨held, takes⟩ : ∃ held, s.runningStage i f = { s with
      headWaited := s.headWaited || s.headWaits, pendingCapture := c2, captureBuffer := b2, queue := q, attn := a
      mergedCount := m, deferredCount := d, droppedCount := x, fault := f3, slots := reported.slots
      gesture := g }.withSurface i (Surface.imageTaken { v with
          counters := counters, status := .acquiring, imageFlight := none, sums := v.geometry.zeroImage, collected := 0
          driftCounter := 0, anomalyCount := 0 } held) := by
    rw [run, finished, State.takeImage_eq, State.withSurface_surface, State.withSurface_withSurface]
    exact ⟨_, rfl⟩
  have rebasedSlots : EndedSlots i s.slots reported.slots := by
    refine EndedSlots.closingOnlyReport ?_
    rw [restartedFrame]
    cases i <;> exact EndedSlots.endEffect _ _
  obtain ⟨length, others, own⟩ := rebasedSlots
  have engine : i = .panel → g = s.gesture := fun isPanel => by
    rw [panelEngine isPanel, restartedFrame]
    cases i <;> rfl
  refine ⟨s.runningStage i f, row, run, ?_⟩
  have served_c : served.pendingCapture = c2 ∧ served.captureBuffer = b2 := by
    rw [servedFrame]
    exact ⟨rfl, rfl⟩
  have final : ∀ t, t = s.runningStage i f → t.pendingCapture = c2 ∧ t.captureBuffer = b2 ∧ t.slots = reported.slots ∧
      t.gesture = g ∧ t.switchReported = s.switchReported ∧ t.fault = f3 := by
    rintro t rfl
    rw [takes]
    cases i <;> exact ⟨rfl, rfl, rfl, rfl, rfl, rfl⟩
  obtain ⟨capture, buffer, slots, gesture, switch, fault⟩ := final _ rfl
  rw [served_c.1, served_c.2, capture, buffer, slots, gesture, switch, fault]
  obtain ⟨servedCapture, servedBuffer⟩ := served_c
  have surface : (s.runningStage i f).surface i = Surface.imageTaken { v with
      counters := counters, status := .acquiring, imageFlight := none, sums := v.geometry.zeroImage, collected := 0
      driftCounter := 0, anomalyCount := 0 } held := by
    rw [takes, State.withSurface_surface]
  refine ⟨rfl, rfl, fun c pending own ofKind => ?_, fun c pending other => ?_, ?_, ?_, ?_, ?_, ?_, ?_, ?_, ?_, ?_, ?_,
    fun j other => ?_, own, others, ?_, fun isPanel => ⟨engine isPanel, rfl⟩, fun empty captured => ?_⟩
  case refine_1 =>
    obtain ⟨serves, -⟩ := State.servedTwice (s := { s with headWaited := s.headWaited || s.headWaits }) (i := i) (f := f)
      (raw := v.substitute raw) (delta := v.substitute formed) pending
    rw [← servedCapture, ← servedBuffer]
    have geometry : State.surface { s with headWaited := s.headWaited || s.headWaits } i = v := by cases i <;> rfl
    rw [geometry] at serves
    exact serves own ofKind
  case refine_2 =>
    obtain ⟨-, stands⟩ := State.servedTwice (s := { s with headWaited := s.headWaited || s.headWaits }) (i := i) (f := f)
      (raw := v.substitute raw) (delta := v.substitute formed) pending
    have stands : served = _ := stands other
    rw [← servedCapture, ← servedBuffer, stands]
    exact ⟨pending, rfl⟩
  case refine_13 =>
    rw [takes, State.withSurface_surface_ne (h := other)]
    cases j <;> rfl
  case refine_14 =>
    rw [takes]
    cases i <;> rfl
  case refine_15 =>
    have raisedFault : raised.fault = f3 := by
      rw [raisedFrame]
      cases i <;> rfl
    obtain ⟨servedFault, servedMask, servedTime⟩ : (served.withSurface i { v with counters := counters }).fault = none ∧
        (served.withSurface i { v with counters := counters }).queueBlock = s.queueBlock ∧
        (served.withSurface i { v with counters := counters }).time = s.time := by
      rw [servedFrame, ← empty]
      cases i <;> exact ⟨rfl, rfl, rfl⟩
    have filled := State.raiseFault_fault (kind := .autoRebase) (source := linkSource i) (sequence := f.sequence)
      (detail := lowest) servedFault (by rw [servedMask]; exact captured)
    refine ⟨false, ?_⟩
    rw [← raisedFault, show raised.fault = _ from filled, State.newFault, servedTime]
  all_goals
    rw [surface]
    rfl

end Sys2Proof.Machine
end

section
/-! PROOFS. The region stage: measurements of a component, and the limit of 24 regions (R54 to R65, R72). -/

namespace Sys2Proof.Machine

variable {s : State}

/-! ## Folds of minima and maxima -/

theorem total_eq_sum (xs : List Int) : total xs = xs.sum := List.sum_eq_foldl.symm

/-- A running maximum bounds its start and every value, and is one of them. -/
theorem foldl_max_bounds {α β : Type} [LinearOrder β] (f : α → β) (rest : List α) (start : β) :
    let top := rest.foldl (fun m n => max m (f n)) start
    start ≤ top ∧ (∀ n ∈ rest, f n ≤ top) ∧ (top = start ∨ ∃ n ∈ rest, f n = top) := by
  induction rest generalizing start with
  | nil => simp
  | cons first rest ih =>
    obtain ⟨fromStart, fromRest, attained⟩ := ih (max start (f first))
    refine ⟨(le_max_left _ _).trans fromStart, ?_, ?_⟩
    · rintro n (_ | ⟨_, inRest⟩)
      · exact (le_max_right _ _).trans fromStart
      · exact fromRest n inRest
    · rcases attained with isStart | ⟨n, inRest, isTop⟩
      · rcases max_choice start (f first) with chosen | chosen
        · exact .inl (isStart.trans chosen)
        · exact .inr ⟨first, List.mem_cons_self, (isStart.trans chosen).symm⟩
      · exact .inr ⟨n, List.mem_cons_of_mem _ inRest, isTop⟩

/-- The maximum over a component given by its first node and the others. -/
theorem foldl_max_of_cons {α β : Type} [LinearOrder β] (f : α → β) (first : α) (rest : List α) :
    let top := rest.foldl (fun m n => max m (f n)) (f first)
    (∀ n ∈ first :: rest, f n ≤ top) ∧ ∃ n ∈ first :: rest, f n = top := by
  obtain ⟨fromStart, fromRest, attained⟩ := foldl_max_bounds f rest (f first)
  refine ⟨?_, ?_⟩
  · rintro n (_ | ⟨_, inRest⟩)
    · exact fromStart
    · exact fromRest n inRest
  · rcases attained with isStart | ⟨n, inRest, isTop⟩
    · exact ⟨first, List.mem_cons_self, isStart.symm⟩
    · exact ⟨n, List.mem_cons_of_mem _ inRest, isTop⟩

theorem maxOf_bounds (f : Node → Nat) (first : Node) (rest : List Node) :
    (∀ n ∈ first :: rest, f n ≤ maxOf f first rest) ∧ ∃ n ∈ first :: rest, f n = maxOf f first rest :=
  foldl_max_of_cons f first rest

/-- A minimum is a maximum of the opposite order. -/
theorem minOf_bounds (f : Node → Nat) (first : Node) (rest : List Node) :
    (∀ n ∈ first :: rest, minOf f first rest ≤ f n) ∧ ∃ n ∈ first :: rest, f n = minOf f first rest :=
  foldl_max_of_cons (β := Natᵒᵈ) f first rest

/-! ## The region record (R59 to R63) -/

theorem regionOf_measures (g : Geometry) (det : Detection) {part : List Node} (nonempty : part ≠ []) :
    let w := fun (n : Node) => n.delta - det.noiseFloor
    ∃ r : Region, regionOf g det part = some r ∧ r.area = part.length ∧
      (∀ n ∈ part, n.delta ≤ r.peak) ∧ (∃ n ∈ part, n.delta = r.peak) ∧
      r.sum = (part.map (·.delta)).sum ∧ r.density = r.sum / r.area ∧ r.weight = (part.map w).sum ∧
      (∀ n ∈ part, r.driveFirst ≤ n.d ∧ n.d ≤ r.driveLast ∧ r.senseFirst ≤ n.s ∧ n.s ≤ r.senseLast) ∧
      (∃ n ∈ part, n.d = r.driveFirst) ∧ (∃ n ∈ part, n.d = r.driveLast) ∧
      (∃ n ∈ part, n.s = r.senseFirst) ∧ (∃ n ∈ part, n.s = r.senseLast) ∧
      r.width = r.senseLast - r.senseFirst + 1 ∧ r.height = r.driveLast - r.driveFirst + 1 ∧
      (r.edge = true ↔ r.driveFirst = 0 ∨ r.driveLast + 1 = g.driveLines ∨ r.senseFirst = 0 ∨
        r.senseLast + 1 = g.senseLines) ∧
      r.x = (2 * (part.map (fun n => w n * (64 * n.s + 32))).sum + r.weight) / (2 * r.weight) ∧
      r.y = (2 * (part.map (fun n => w n * (64 * n.d + 32))).sum + r.weight) / (2 * r.weight) := by
  cases part with
  | nil => exact absurd rfl nonempty
  | cons first rest =>
    obtain ⟨peakBounds, peakAttained⟩ := foldl_max_of_cons (·.delta) first rest
    obtain ⟨driveFrom, driveFromAttained⟩ := minOf_bounds (·.d) first rest
    obtain ⟨driveTo, driveToAttained⟩ := maxOf_bounds (·.d) first rest
    obtain ⟨senseFrom, senseFromAttained⟩ := minOf_bounds (·.s) first rest
    obtain ⟨senseTo, senseToAttained⟩ := maxOf_bounds (·.s) first rest
    have edge : (measure g det first rest).edge = true ↔ (measure g det first rest).driveFirst = 0 ∨
        (measure g det first rest).driveLast + 1 = g.driveLines ∨ (measure g det first rest).senseFirst = 0 ∨
        (measure g det first rest).senseLast + 1 = g.senseLines := by
      simp [measure, or_assoc]
    exact ⟨measure g det first rest, rfl, rfl, peakBounds, peakAttained, total_eq_sum _, rfl, total_eq_sum _,
      fun n inPart => ⟨driveFrom n inPart, driveTo n inPart, senseFrom n inPart, senseTo n inPart⟩,
      driveFromAttained, driveToAttained, senseFromAttained, senseToAttained, rfl, rfl, edge,
      congrArg (fun sum => (2 * sum + _) / (2 * _)) (total_eq_sum _),
      congrArg (fun sum => (2 * sum + _) / (2 * _)) (total_eq_sum _)⟩

/-! ## The region stage (R58, R65, R72) -/

theorem removeShadow_eq (pen : PenRecord) (radius : Nat) (regions : List Region) :
    removeShadow pen radius regions =
      if pen.state = .contact then regions.filter (fun r => radius < distance r.x r.y pen.x pen.y) else regions :=
  if_congr beq_iff_eq rfl rfl

theorem removeShadow_length_le (pen : PenRecord) (radius : Nat) (regions : List Region) :
    (removeShadow pen radius regions).length ≤ regions.length := by
  rw [removeShadow_eq]
  split
  · exact List.length_filter_le _ _
  · exact le_rfl

theorem keptRegions_length_le (g : Geometry) (det : Detection) (parts : List (List Node)) :
    (keptRegions g det parts).length ≤ 24 :=
  (List.length_filterMap_le _ _).trans (List.length_take_le _ _)

/-- The regions that are left after pen-shadow removal, which only PANEL has (R65). -/
def State.seenRegions (s : State) (i : SurfaceId) (parts : List (List Node)) : List Region :=
  let kept := keptRegions (s.surface i).geometry (s.surface i).detection parts
  if i = .panel ∧ s.pen.state = .contact then
    kept.filter (fun r => s.panelRejection.shadowRadius < distance r.x r.y s.pen.x s.pen.y) else kept

theorem State.seenRegions_eq (i : SurfaceId) (parts : List (List Node)) :
    s.seenRegions i parts =
      if i == .panel then
        removeShadow s.pen s.panelRejection.shadowRadius
          (keptRegions (s.surface i).geometry (s.surface i).detection parts)
      else keptRegions (s.surface i).geometry (s.surface i).detection parts := by
  unfold State.seenRegions
  cases i with
  | pad => simp
  | panel => simp [removeShadow_eq]

theorem State.seenRegions_length_le (i : SurfaceId) (parts : List (List Node)) : (s.seenRegions i parts).length ≤ 24 := by
  rw [State.seenRegions_eq]
  split
  · exact (removeShadow_length_le _ _ _).trans (keptRegions_length_le _ _ _)
  · exact keptRegions_length_le _ _ _

/-- The region stage of a frame whose delta image stands. -/
theorem State.regionStage_eq {i : SurfaceId} {f : ImageFrame} {delta : Image} {u : BaselineUpdate}
    (baselined : (s.surface i).imageFlight = some { frame := f, progress := .baselined delta u }) :
    let parts := components (s.surface i).detection.touchThreshold delta
    let regions := classifyAll (s.surface i).classTable (s.seenRegions i parts)
    let handed := s.withSurface i
      { s.surface i with imageFlight := some { frame := f, progress := .extracted regions u } }
    s.regionStage i =
      if 24 < parts.length then
        (handed.countLink i (fun c => { c with regionOverflows := bump c.regionOverflows 1 })).raiseFault
          .regionOverflow (linkSource i) f.sequence (parts.length - 24)
      else handed := by
  simp only [State.regionStage, baselined, State.seenRegions_eq, regionLimit] <;> rfl

theorem exec_regionStage (started : s.started = true) (i : SurfaceId) :
    exec (.regionStage i) s = .next (s.regionStage i) :=
  congrArg Host.Outcome.next (if_pos started)

/-- Settles O27: the stage's one equation, and the measurements as folds over a component. -/
theorem regionStageMeasuresAtMostTwentyFour : Obligations.RegionStageMeasuresAtMostTwentyFour := by
  refine ⟨?_, fun g det part nonempty => regionOf_measures g det nonempty⟩
  intro s i f delta u started baselined v parts kept seen regions flight
  have stage := State.regionStage_eq baselined
  refine ⟨?_, fun fits => ?_, fun overflows => ?_⟩
  · exact (List.length_map _).trans_le (State.seenRegions_length_le i parts)
  · exact (exec_regionStage started i).trans (congrArg Host.Outcome.next (stage.trans (if_neg (Nat.not_lt.mpr fits))))
  · rw [exec_regionStage started, stage, if_pos overflows, State.countLink, State.withSurface_surface,
      State.withSurface_withSurface]
    rfl

end Sys2Proof.Machine
end

section
/-! PROOFS. The line mapper: the coverage test, the mapping of samples to lines, and dead-line substitution
(R31 to R34). -/

namespace Sys2Proof.Machine

variable {s : State} {v : Surface}

/-! ## The coverage test (R31) -/

/-- Two entries of a list have a property when it is counted more than once. -/
theorem one_lt_countP_iff {α : Type} (p : α → Bool) (xs : List α) :
    1 < xs.countP p ↔ ∃ (a b : Nat) (x y : α), a < b ∧ xs[a]? = some x ∧ xs[b]? = some y ∧ p x = true ∧ p y = true := by
  induction xs with
  | nil => simp
  | cons first rest ih =>
    constructor
    · intro twice
      by_cases holds : p first = true
      · rw [List.countP_cons_of_pos holds] at twice
        obtain ⟨y, inRest, isY⟩ := List.countP_pos_iff.mp (Nat.lt_of_succ_lt_succ twice)
        obtain ⟨b, atB⟩ := List.mem_iff_getElem?.mp inRest
        exact ⟨0, b + 1, first, y, Nat.succ_pos b, rfl, atB, holds, isY⟩
      · rw [List.countP_cons_of_neg holds] at twice
        obtain ⟨a, b, x, y, before, atA, atB, isX, isY⟩ := ih.mp twice
        exact ⟨a + 1, b + 1, x, y, Nat.succ_lt_succ before, atA, atB, isX, isY⟩
    · rintro ⟨a, b, x, y, before, atA, atB, isX, isY⟩
      obtain ⟨b, rfl⟩ := Nat.exists_eq_succ_of_ne_zero (Nat.ne_zero_of_lt before)
      cases a with
      | zero =>
        obtain rfl : first = x := Option.some.inj atA
        rw [List.countP_cons_of_pos isX]
        exact Nat.succ_lt_succ (List.countP_pos_iff.mpr ⟨y, List.mem_iff_getElem?.mpr ⟨b, atB⟩, isY⟩)
      | succ a =>
        exact (ih.mpr ⟨a, b, x, y, Nat.lt_of_succ_lt_succ before, atA, atB, isX, isY⟩).trans_le
          (List.Sublist.countP_le (List.sublist_cons_self first rest))

/-- Two entries hold one line. -/
def HeldTwice (entries : List LineEntry) (l : Nat) : Prop :=
  ∃ (a b : Nat) (e f : LineEntry), a ≠ b ∧ entries[a]? = some e ∧ entries[b]? = some f ∧ e.line = some l ∧ f.line = some l

theorem one_lt_claims_iff {entries : List LineEntry} {l : Nat} : 1 < claims entries l ↔ HeldTwice entries l := by
  rw [claims, one_lt_countP_iff]
  simp only [beq_iff_eq]
  constructor
  · rintro ⟨a, b, e, f, before, atA, atB, holdsE, holdsF⟩
    exact ⟨a, b, e, f, before.ne, atA, atB, holdsE, holdsF⟩
  · rintro ⟨a, b, e, f, differ, atA, atB, holdsE, holdsF⟩
    rcases Nat.lt_or_gt_of_ne differ with before | after
    · exact ⟨a, b, e, f, before, atA, atB, holdsE, holdsF⟩
    · exact ⟨b, a, f, e, after, atB, atA, holdsF, holdsE⟩

theorem claims_eq_zero_iff {entries : List LineEntry} {l : Nat} :
    claims entries l = 0 ↔ ∀ e ∈ entries, e.line ≠ some l := by
  simp [claims, List.countP_eq_zero]

theorem axisConflict_iff (entries : List LineEntry) (count : Nat) :
    axisConflict entries count = true ↔
      (∃ e ∈ entries, ∃ l, e.line = some l ∧ count ≤ l) ∨ (∃ l, HeldTwice entries l) ∨
        ∃ l, l < count ∧ ∀ e ∈ entries, e.line ≠ some l := by
  have examined : ∀ e : LineEntry, (match e.line with
      | some l => decide (count ≤ l) || decide (1 < claims entries l)
      | none => false) = true ↔ ∃ l, e.line = some l ∧ (count ≤ l ∨ HeldTwice entries l) := by
    intro e
    cases e.line with
    | none => simp
    | some l => simp [one_lt_claims_iff]
  simp only [axisConflict, Bool.or_eq_true, List.any_eq_true, upTo, List.mem_range, beq_iff_eq, claims_eq_zero_iff]
  constructor
  · rintro (⟨e, inEntries, fails⟩ | unclaimed)
    · obtain ⟨l, holds, past | twice⟩ := (examined e).mp fails
      · exact .inl ⟨e, inEntries, l, holds, past⟩
      · exact .inr (.inl ⟨l, twice⟩)
    · exact .inr (.inr unclaimed)
  · rintro (⟨e, inEntries, l, holds, past⟩ | ⟨l, twice⟩ | unclaimed)
    · exact .inl ⟨e, inEntries, (examined e).mpr ⟨l, holds, .inl past⟩⟩
    · have ⟨a, _, e, _, _, atA, _, holds, _⟩ := twice
      exact .inl ⟨e, List.mem_iff_getElem?.mpr ⟨a, atA⟩, (examined e).mpr ⟨l, holds, .inr twice⟩⟩
    · exact .inr unclaimed

theorem mem_deadLines {entries : List LineEntry} {count l : Nat} :
    l ∈ deadLines entries count ↔ l < count ∧ ∃ e ∈ entries, e.line = some l ∧ e.dead = true := by
  simp [deadLines, upTo]

theorem deadLines_ascend (entries : List LineEntry) (count : Nat) : (deadLines entries count).Pairwise (· < ·) :=
  List.pairwise_lt_range.filter _

/-! ## The channel of a line (R31, R32) -/

/-- Every line of an axis has exactly one channel, and no channel a line past the count. -/
structure Covered (entries : List LineEntry) (count : Nat) : Prop where
  within : ∀ e ∈ entries, ∀ l, e.line = some l → l < count
  once : ∀ l, ¬ HeldTwice entries l
  claimed : ∀ l, l < count → ∃ e ∈ entries, e.line = some l

theorem covered_of_not_conflict {entries : List LineEntry} {count : Nat} (none_found : axisConflict entries count = false) :
    Covered entries count := by
  have clear : ¬ axisConflict entries count = true := by simp [none_found]
  rw [axisConflict_iff] at clear
  push Not at clear
  obtain ⟨within, once, claimed⟩ := clear
  exact ⟨within, once, claimed⟩

theorem Surface.covered (free : v.mapConflict = false) :
    Covered v.driveEntries v.geometry.driveLines ∧ Covered v.senseEntries v.geometry.senseLines := by
  obtain ⟨drive, sense⟩ := Bool.or_eq_false_iff.mp free
  exact ⟨covered_of_not_conflict drive, covered_of_not_conflict sense⟩

variable {entries : List LineEntry} {count : Nat}

theorem Covered.channel_unique (covered : Covered entries count) {l a b : Nat} {e f : LineEntry}
    (atA : entries[a]? = some e) (holdsE : e.line = some l) (atB : entries[b]? = some f) (holdsF : f.line = some l) :
    a = b :=
  Classical.byContradiction fun differ => covered.once l ⟨a, b, e, f, differ, atA, atB, holdsE, holdsF⟩

theorem Covered.existsUnique_channel (covered : Covered entries count) {l : Nat} (within : l < count) :
    ∃! n : Nat, (entries[n]?).bind (fun e : LineEntry => e.line) = some l := by
  obtain ⟨e, inEntries, holds⟩ := covered.claimed l within
  obtain ⟨n, atN⟩ := List.mem_iff_getElem?.mp inEntries
  refine ⟨n, Option.bind_eq_some_iff.mpr ⟨e, atN, holds⟩, fun m serves => ?_⟩
  obtain ⟨f, atM, holdsF⟩ := Option.bind_eq_some_iff.mp serves
  exact covered.channel_unique atM holdsF atN holds

theorem Covered.channelOf_eq (covered : Covered entries count) {l n : Nat} {e : LineEntry}
    (atN : entries[n]? = some e) (holds : e.line = some l) : channelOf entries l = some n := by
  obtain ⟨inside, isE⟩ := List.getElem?_eq_some_iff.mp atN
  rw [channelOf, List.findIdx?_eq_some_iff_getElem]
  refine ⟨inside, by simp [isE, holds], fun m before holdsM => ?_⟩
  have same := covered.channel_unique (List.getElem?_eq_getElem (before.trans inside)) (beq_iff_eq.mp holdsM) atN holds
  exact absurd same before.ne

theorem Covered.onLine_eq (covered : Covered entries count) {l n : Nat} {e : LineEntry}
    (atN : entries[n]? = some e) (holds : e.line = some l) (values : List Int) :
    onLine entries values l = values.getD n 0 := by
  simp [onLine, covered.channelOf_eq atN holds]

/-- An axis whose lines take their channels' values has at a line its channel's value. -/
theorem Covered.line_value (covered : Covered entries count) {l n : Nat} {e : LineEntry}
    (atN : entries[n]? = some e) (holds : e.line = some l) {values : List Int} (inside : n < values.length) :
    ((upTo count).map (onLine entries values))[l]? = values[n]? := by
  have within := covered.within e (List.mem_iff_getElem?.mpr ⟨n, atN⟩) l holds
  simp [upTo, within, covered.onLine_eq atN holds, inside]

/-! ## The mapped image (R32) -/

theorem piecesOf_getElem? {α : Type} {k : Nat} (positive : 0 < k) (fuel : Nat) {xs : List α}
    (length : xs.length = fuel * k) {i : Nat} (within : i < fuel) :
    (piecesOf k fuel xs)[i]? = some ((xs.drop (i * k)).take k) := by
  induction fuel generalizing xs i with
  | zero => exact absurd within (Nat.not_lt_zero i)
  | succ fuel ih =>
    have unfolded : piecesOf k (fuel + 1) xs = xs.take k :: piecesOf k fuel (xs.drop k) := by
      cases xs with
      | nil => simp only [List.length_nil, Nat.succ_mul] at length; omega
      | cons _ _ => rfl
    rw [unfolded]
    cases i with
    | zero => simp
    | succ i =>
      rw [List.getElem?_cons_succ, ih (by simp [length, Nat.succ_mul]) (Nat.lt_of_succ_lt_succ within), List.drop_drop,
        Nat.succ_mul, Nat.add_comm]

theorem lt_of_getElem?_take {α : Type} {xs : List α} {n i : Nat} {x : α} (at_i : (xs.take n)[i]? = some x) : i < n := by
  obtain ⟨inside, _⟩ := List.getElem?_eq_some_iff.mp at_i
  exact inside.trans_le (List.length_take_le n xs)

theorem Surface.nodeAt_mapImage (free : v.mapConflict = false) {samples : List Int}
    (length : samples.length = v.geometry.driveChannels * v.geometry.senseChannels) {i j d k : Nat} {e f : LineEntry}
    (atI : v.driveEntries[i]? = some e) (holdsD : e.line = some d) (atJ : v.senseEntries[j]? = some f)
    (holdsK : f.line = some k) : nodeAt (v.mapImage samples) d k = samples[i * v.geometry.senseChannels + j]? := by
  obtain ⟨drive, sense⟩ := v.covered free
  have channelD : i < v.geometry.driveChannels := lt_of_getElem?_take atI
  have channelK : j < v.geometry.senseChannels := lt_of_getElem?_take atJ
  have withinD := drive.within e (List.mem_iff_getElem?.mpr ⟨i, atI⟩) d holdsD
  have piece := piecesOf_getElem? (Nat.zero_lt_of_lt channelK) v.geometry.driveChannels length channelD
  have room : (i + 1) * v.geometry.senseChannels ≤ samples.length := length ▸ Nat.mul_le_mul_right _ channelD
  have row : (v.mapImage samples)[d]? = some ((upTo v.geometry.senseLines).map
      (onLine v.senseEntries ((samples.drop (i * v.geometry.senseChannels)).take v.geometry.senseChannels))) := by
    simp [Surface.mapImage, upTo, withinD, drive.channelOf_eq atI holdsD,
      List.getD_eq_getElem?_getD, piece]
  rw [nodeAt, row, Option.bind_some, sense.line_value atJ holdsK, List.getElem?_take_of_lt channelK, List.getElem?_drop]
  rw [Nat.succ_mul] at room
  rw [List.length_take, List.length_drop]
  omega

/-! ## Dead-line substitution (R33) -/

/-- What a dead line takes from its usable neighbours. -/
def joined {α : Type} (avg : α → α → α) (zero : α) : Option α → Option α → α
  | some below, some above => avg below above
  | some below, none => below
  | none, some above => above
  | none, none => zero

/-- One dead line of a pass: the values and the lines done. -/
def passStep {α : Type} (avg : α → α → α) (zero : α) (dead : List Nat) (p : List α × List Nat) (line : Nat) :
    List α × List Nat :=
  (p.1.set line (substituteLine avg zero dead p.2 p.1 line), line :: p.2)

theorem substitutePass_eq {α : Type} (avg : α → α → α) (zero : α) (dead : List Nat) (xs : List α) :
    substitutePass avg zero dead xs = (dead.foldl (passStep avg zero dead) (xs, [])).1 := rfl

theorem substituteLine_eq {α : Type} (avg : α → α → α) (zero : α) (dead done : List Nat) (xs : List α) (line : Nat) :
    substituteLine avg zero dead done xs line =
      joined avg zero (if 1 ≤ line && usable dead done xs.length (line - 1) then xs[line - 1]? else none)
        (if usable dead done xs.length (line + 1) then xs[line + 1]? else none) := by
  simp only [substituteLine]
  split <;> simp_all [joined]

theorem usable_iff {dead done : List Nat} {n line : Nat} :
    usable dead done n line = true ↔ line < n ∧ (line ∉ dead ∨ line ∈ done) := by
  simp [usable]

/-- The value below a dead line, which a pass in ascending order has already set. -/
def belowOf {α : Type} (ys : List α) (l : Nat) : Option α := if l = 0 then none else ys[l - 1]?

/-- The value above a dead line, which is used when that line is live. -/
def aboveOf {α : Type} (dead : List Nat) (xs : List α) (l : Nat) : Option α := if l + 1 ∈ dead then none else xs[l + 1]?

/-- How a pass stands when the lines of `past` are done. -/
structure PassAt {α : Type} (avg : α → α → α) (zero : α) (dead : List Nat) (xs : List α) (past : List Nat)
    (p : List α × List Nat) : Prop where
  done : p.2 = past.reverse
  length : p.1.length = xs.length
  kept : ∀ l, l ∉ past → p.1[l]? = xs[l]?
  set : ∀ l ∈ past, l < xs.length → p.1[l]? = some (joined avg zero (belowOf p.1 l) (aboveOf dead xs l))

section

variable {α : Type} {avg : α → α → α} {zero : α} {dead : List Nat} {xs : List α}

/-- A line whose predecessors are done takes its value from the line below, set or live, and the line above. -/
theorem PassAt.substituteLine_eq {past later : List Nat} {line : Nat} {p : List α × List Nat}
    (stands : PassAt avg zero dead xs past p) (split_ : dead = past ++ line :: later) (sorted : dead.Pairwise (· < ·))
    (inside : line < xs.length) :
    substituteLine avg zero dead p.2 p.1 line = joined avg zero (belowOf p.1 line) (aboveOf dead xs line) := by
  have order := sorted
  rw [split_, List.pairwise_append, List.pairwise_cons] at order
  obtain ⟨_, ⟨beforeLater, _⟩, beforeLine⟩ := order
  have pastBefore : ∀ l ∈ past, l < line := fun l inPast => beforeLine l inPast line List.mem_cons_self
  have below : (if 1 ≤ line && usable dead p.2 p.1.length (line - 1) then p.1[line - 1]? else none) =
      belowOf p.1 line := by
    by_cases first : line = 0
    · simp [first, belowOf]
    · have settled : line - 1 ∉ dead ∨ line - 1 ∈ p.2 := by
        refine or_iff_not_imp_left.mpr fun isDead => ?_
        rw [stands.done, List.mem_reverse]
        rw [not_not, split_, List.mem_append, List.mem_cons] at isDead
        rcases isDead with inPast | isLine | inLater
        · exact inPast
        · omega
        · have := beforeLater _ inLater
          omega
      have usableBelow : usable dead p.2 p.1.length (line - 1) = true :=
        usable_iff.mpr ⟨by rw [stands.length]; omega, settled⟩
      simp [usableBelow, belowOf, first, Nat.one_le_iff_ne_zero]
  have above : (if usable dead p.2 p.1.length (line + 1) then p.1[line + 1]? else none) = aboveOf dead xs line := by
    have notPast : line + 1 ∉ past := fun inPast => by
      have := pastBefore _ inPast
      omega
    rw [stands.kept _ notPast, aboveOf]
    by_cases past_end : line + 1 < xs.length
    · simp [usable, stands.length, stands.done, past_end, notPast]
    · simp [List.getElem?_eq_none (Nat.le_of_not_lt past_end)]
  rw [Machine.substituteLine_eq, below, above]

theorem PassAt.step {past later : List Nat} {line : Nat} {p : List α × List Nat}
    (stands : PassAt avg zero dead xs past p) (split_ : dead = past ++ line :: later) (sorted : dead.Pairwise (· < ·)) :
    PassAt avg zero dead xs (past ++ [line]) (passStep avg zero dead p line) := by
  have pastBefore : ∀ l ∈ past, l < line := by
    intro l inPast
    rw [split_, List.pairwise_append] at sorted
    obtain ⟨_, _, beforeLine⟩ := sorted
    exact beforeLine l inPast line List.mem_cons_self
  have belowStands : ∀ l, l ≤ line → belowOf (passStep avg zero dead p line).1 l = belowOf p.1 l := by
    intro l upToLine
    by_cases first : l = 0
    · simp [belowOf, first]
    · simp only [belowOf, first, if_false, passStep]
      exact List.getElem?_set_ne (by omega)
  refine ⟨?_, ?_, ?_, ?_⟩
  · simp [passStep, stands.done]
  · simp [passStep, stands.length]
  · intro l notPast
    obtain ⟨notBefore, notLine⟩ : l ∉ past ∧ l ≠ line := by simpa using notPast
    rw [← stands.kept l notBefore]
    exact List.getElem?_set_ne (Ne.symm notLine)
  · intro l inPast inside
    rcases List.mem_append.mp inPast with before | isLine
    · rw [belowStands l (pastBefore l before).le, ← stands.set l before inside]
      exact List.getElem?_set_ne (pastBefore l before).ne'
    · obtain rfl : l = line := List.mem_singleton.mp isLine
      rw [belowStands l le_rfl, ← stands.substituteLine_eq split_ sorted inside]
      exact List.getElem?_set_self (stands.length ▸ inside)

theorem passAt_of_past (sorted : dead.Pairwise (· < ·)) (past later : List Nat) (split_ : dead = past ++ later) :
    PassAt avg zero dead xs past (past.foldl (passStep avg zero dead) (xs, [])) := by
  induction past using List.reverseRecOn generalizing later with
  | nil => exact ⟨rfl, rfl, fun _ _ => rfl, fun _ none_past => absurd none_past List.not_mem_nil⟩
  | append_singleton past line ih =>
    rw [List.append_assoc, List.singleton_append] at split_
    rw [List.foldl_concat]
    exact (ih _ split_).step split_ sorted

/-- What a whole pass leaves: live lines as they were, dead lines between their neighbours. -/
theorem substitutePass_at (sorted : dead.Pairwise (· < ·)) :
    (substitutePass avg zero dead xs).length = xs.length ∧
      (∀ l, l ∉ dead → (substitutePass avg zero dead xs)[l]? = xs[l]?) ∧
      ∀ l ∈ dead, l < xs.length → (substitutePass avg zero dead xs)[l]? =
        some (joined avg zero (belowOf (substitutePass avg zero dead xs) l) (aboveOf dead xs l)) := by
  have stands : PassAt avg zero dead xs dead (dead.foldl (passStep avg zero dead) (xs, [])) :=
    passAt_of_past sorted dead [] (List.append_nil dead).symm
  exact ⟨stands.length, stands.kept, stands.set⟩

/-! A pass commutes with a map that commutes with the average and keeps what every value has. -/

variable {β : Type} {avg' : β → β → β} {zero' : β} {P : α → Prop} {f : α → β}

theorem joined_map (averages : ∀ a b, P a → P b → P (avg a b) ∧ f (avg a b) = avg' (f a) (f b))
    (zeros : P zero ∧ f zero = zero') {below above : Option α} (hasBelow : ∀ a ∈ below, P a)
    (hasAbove : ∀ a ∈ above, P a) :
    P (joined avg zero below above) ∧
      f (joined avg zero below above) = joined avg' zero' (below.map f) (above.map f) := by
  cases below with
  | none =>
    cases above with
    | none => exact zeros
    | some b => exact ⟨hasAbove b rfl, rfl⟩
  | some a =>
    cases above with
    | none => exact ⟨hasBelow a rfl, rfl⟩
    | some b => exact averages a b (hasBelow a rfl) (hasAbove b rfl)

theorem substituteLine_map (averages : ∀ a b, P a → P b → P (avg a b) ∧ f (avg a b) = avg' (f a) (f b))
    (zeros : P zero ∧ f zero = zero') {ys : List α} (all : ∀ y ∈ ys, P y) (dead done : List Nat) (line : Nat) :
    P (substituteLine avg zero dead done ys line) ∧
      f (substituteLine avg zero dead done ys line) = substituteLine avg' zero' dead done (ys.map f) line := by
  have neighbour : ∀ (c : Bool) (l : Nat), ∀ a ∈ (if c then ys[l]? else none), P a := by
    intro c l a found
    cases c with
    | false => exact absurd found (by simp)
    | true => exact all a (List.mem_iff_getElem?.mpr ⟨l, found⟩)
  obtain ⟨has, maps⟩ := joined_map averages zeros (neighbour (decide (1 ≤ line) && usable dead done ys.length (line - 1))
    (line - 1)) (neighbour (usable dead done ys.length (line + 1)) (line + 1))
  rw [Machine.substituteLine_eq, Machine.substituteLine_eq]
  refine ⟨has, maps.trans ?_⟩
  simp only [List.length_map, List.getElem?_map, apply_ite (Option.map f), Option.map_none]

theorem substitutePass_map (averages : ∀ a b, P a → P b → P (avg a b) ∧ f (avg a b) = avg' (f a) (f b))
    (zeros : P zero ∧ f zero = zero') (all : ∀ x ∈ xs, P x) (dead : List Nat) :
    (∀ y ∈ substitutePass avg zero dead xs, P y) ∧
      (substitutePass avg zero dead xs).map f = substitutePass avg' zero' dead (xs.map f) := by
  have steps : ∀ (lines : List Nat) (ys : List α) (done : List Nat), (∀ y ∈ ys, P y) →
      (∀ y ∈ (lines.foldl (passStep avg zero dead) (ys, done)).1, P y) ∧
        (lines.foldl (passStep avg zero dead) (ys, done)).1.map f =
          (lines.foldl (passStep avg' zero' dead) (ys.map f, done)).1 := by
    intro lines
    induction lines with
    | nil => exact fun _ _ has => ⟨has, rfl⟩
    | cons line lines ih =>
      intro ys done has
      obtain ⟨hasNew, mapsNew⟩ := substituteLine_map averages zeros has dead done line
      have hasSet : ∀ y ∈ ys.set line (substituteLine avg zero dead done ys line), P y := fun y inSet =>
        (List.mem_or_eq_of_mem_set inSet).elim (has y) (fun isNew => isNew ▸ hasNew)
      obtain ⟨hasLast, mapsLast⟩ := ih _ (line :: done) hasSet
      refine ⟨hasLast, mapsLast.trans ?_⟩
      rw [List.map_set, mapsNew]
      rfl
  exact steps dead xs [] all

end

/-! ## The pass of an axis and of an image (R33, R34) -/

theorem average_eq (a b : Int) : average a b = (a + b + 1) / 2 := by
  unfold average rounded
  omega

theorem getD_zipWith_average {a b : List Int} {k : Nat} (inA : k < a.length) (inB : k < b.length) :
    (List.zipWith average a b).getD k 0 = average (a.getD k 0) (b.getD k 0) := by
  simp [List.getD_eq_getElem?_getD, inA, inB]

/-- The drive pass of an image is the pass of each of its columns. -/
theorem drivePass_columns {image : Image} {n k : Nat} (lengths : ∀ row ∈ image, row.length = n) (within : k < n)
    (dead : List Nat) :
    (∀ row ∈ substitutePass (List.zipWith average) (List.replicate n 0) dead image, row.length = n) ∧
      (substitutePass (List.zipWith average) (List.replicate n 0) dead image).map (·.getD k 0) =
        substitutePass average 0 dead (image.map (·.getD k 0)) := by
  refine substitutePass_map (P := fun row : List Int => row.length = n) (fun a b lengthA lengthB => ⟨?_, ?_⟩)
    ⟨?_, ?_⟩ lengths dead
  · simp [lengthA, lengthB]
  · exact getD_zipWith_average (lengthA ▸ within) (lengthB ▸ within)
  · exact List.length_replicate
  · simp [List.getD_eq_getElem?_getD, within]

theorem drivePass_lengths {image : Image} {n : Nat} (lengths : ∀ row ∈ image, row.length = n) (dead : List Nat) :
    ∀ row ∈ substitutePass (List.zipWith average) (List.replicate n 0) dead image, row.length = n := by
  refine (substitutePass_map (P := fun row : List Int => row.length = n) (f := id) (avg' := List.zipWith average)
    (fun a b lengthA lengthB => ⟨?_, rfl⟩) ⟨List.length_replicate, rfl⟩ lengths dead).left
  simp [lengthA, lengthB]

/-- R33's cases of one line of a pass. -/
theorem substitutePass_cases {dead : List Nat} (xs : List Int) (sorted : dead.Pairwise (· < ·)) :
    let out := substitutePass average 0 dead xs
    out.length = xs.length ∧
    ∀ l : Nat, l < xs.length →
      let above := xs[l + 1]?
      (l ∉ dead → out[l]? = xs[l]?) ∧
      (l ∈ dead → l = 0 → (l + 1 ∈ dead ∨ above = none) → out[l]? = some 0) ∧
      (l ∈ dead → l = 0 → ∀ x, l + 1 ∉ dead → above = some x → out[l]? = some x) ∧
      (l ∈ dead → l ≠ 0 → (l + 1 ∈ dead ∨ above = none) → out[l]? = out[l - 1]?) ∧
      (l ∈ dead → l ≠ 0 → ∀ x y, l + 1 ∉ dead → above = some x → out[l - 1]? = some y →
        out[l]? = some ((x + y + 1) / 2)) := by
  intro out
  obtain ⟨length, kept, set⟩ := substitutePass_at (avg := average) (zero := 0) (xs := xs) sorted
  have noAbove : ∀ l : Nat, (l + 1 ∈ dead ∨ xs[l + 1]? = none) → aboveOf dead xs l = none := by
    rintro l (isDead | outside)
    · exact if_pos isDead
    · simp [aboveOf, outside]
  have someAbove : ∀ (l : Nat) (x : Int), l + 1 ∉ dead → xs[l + 1]? = some x → aboveOf dead xs l = some x :=
    fun l x live isX => (if_neg live).trans isX
  have noBelow : ∀ l : Nat, l = 0 → belowOf out l = none := fun l first => if_pos first
  have someBelow : ∀ l : Nat, l ≠ 0 → belowOf out l = out[l - 1]? := fun l after => if_neg after
  refine ⟨length, fun l inside => ⟨kept l, ?_, ?_, ?_, ?_⟩⟩
  · intro isDead first none_above
    rw [set l isDead inside, noBelow l first, noAbove l none_above]
    rfl
  · intro isDead first x live isX
    rw [set l isDead inside, noBelow l first, someAbove l x live isX]
    rfl
  · intro isDead after none_above
    have inOut : l - 1 < out.length := length.symm ▸ (Nat.sub_le l 1).trans_lt inside
    rw [set l isDead inside, someBelow l after, noAbove l none_above, List.getElem?_eq_getElem inOut]
    rfl
  · intro isDead after x y live isX isY
    rw [set l isDead inside, someBelow l after, someAbove l x live isX, isY]
    exact congrArg some ((average_eq y x).trans (by rw [Int.add_comm y x]))

theorem Surface.profiles (free : v.mapConflict = false) {samples : List Int}
    (length : samples.length = v.geometry.senseChannels + v.geometry.driveChannels) :
    ∃ sense drive : List Int,
      v.senseProfile samples = substitutePass average 0 v.deadSense sense ∧
      v.driveProfile samples = substitutePass average 0 v.deadDrive drive ∧
      sense.length = v.geometry.senseLines ∧ drive.length = v.geometry.driveLines ∧
      (∀ (j k : Nat) (e : LineEntry), v.senseEntries[j]? = some e → e.line = some k → sense[k]? = samples[j]?) ∧
      (∀ (i d : Nat) (e : LineEntry), v.driveEntries[i]? = some e → e.line = some d →
        drive[d]? = samples[v.geometry.senseChannels + i]?) := by
  obtain ⟨driveCovered, senseCovered⟩ := v.covered free
  refine ⟨_, _, rfl, rfl, by simp [upTo], by simp [upTo], fun j k e atJ holds => ?_, fun i d e atI holds => ?_⟩
  · have channel : j < v.geometry.senseChannels := lt_of_getElem?_take atJ
    rw [senseCovered.line_value atJ holds (by rw [List.length_take]; omega), List.getElem?_take_of_lt channel]
  · have channel : i < v.geometry.driveChannels := lt_of_getElem?_take atI
    rw [driveCovered.line_value atI holds (by rw [List.length_drop]; omega), List.getElem?_drop]

theorem Surface.substitute_columns {image : Image} (rows : image.length = v.geometry.driveLines)
    (lengths : ∀ row ∈ image, row.length = v.geometry.senseLines) :
    ∃ driven : Image, driven.length = v.geometry.driveLines ∧
      (∀ row ∈ driven, row.length = v.geometry.senseLines) ∧
      v.substitute image = driven.map (substitutePass average 0 v.deadSense) ∧
      (∀ k, k < v.geometry.senseLines →
        driven.map (·.getD k 0) = substitutePass average 0 v.deadDrive (image.map (·.getD k 0))) := by
  obtain ⟨length, _, _⟩ := substitutePass_at (avg := List.zipWith average) (zero := List.replicate v.geometry.senseLines 0)
    (xs := image) (deadLines_ascend v.driveEntries v.geometry.driveLines)
  exact ⟨_, length.trans rows, drivePass_lengths lengths v.deadDrive, rfl,
    fun k within => (drivePass_columns lengths within v.deadDrive).right⟩

theorem Surface.mapConflict_iff :
    v.mapConflict = true ↔
      axisConflict v.driveEntries v.geometry.driveLines = true ∨ axisConflict v.senseEntries v.geometry.senseLines = true :=
  Bool.or_eq_true_iff

/-- Two entries that hold one line, the line named last as the statement of R31 has it. -/
theorem exists_heldTwice_iff :
    (∃ l, HeldTwice entries l) ↔ ∃ (a b : Nat) (e f : LineEntry) (l : Nat), a ≠ b ∧ entries[a]? = some e ∧
      entries[b]? = some f ∧ e.line = some l ∧ f.line = some l := by
  constructor
  · rintro ⟨l, a, b, e, f, held⟩
    exact ⟨a, b, e, f, l, held⟩
  · rintro ⟨a, b, e, f, l, held⟩
    exact ⟨l, a, b, e, f, held⟩

/-- Settles O26: the coverage test by its three conflicts, a covered axis's one channel per line, and a pass by
induction along the ascending dead lines. -/
theorem sensorLinesTakeTheirValues : Obligations.SensorLinesTakeTheirValues := by
  refine ⟨fun v => ⟨rfl, rfl, ?_, deadLines_ascend _ _, deadLines_ascend _ _, fun l => mem_deadLines,
    fun l => mem_deadLines, ?_⟩, fun v free => ?_, fun dead xs sorted => substitutePass_cases xs sorted,
    fun v image rows lengths => v.substitute_columns rows lengths⟩
  · rw [Surface.mapConflict_iff, axisConflict_iff, axisConflict_iff, exists_heldTwice_iff, exists_heldTwice_iff]
  · simp [Surface.deadLimit]
  · obtain ⟨drive, sense⟩ := v.covered free
    exact ⟨fun l => drive.existsUnique_channel, fun l => sense.existsUnique_channel, drive.within, sense.within,
      fun samples length i j d k e f atI holdsD atJ holdsK => v.nodeAt_mapImage free length atI holdsD atJ holdsK,
      fun samples length => v.profiles free length⟩

end Sys2Proof.Machine
end

section
/-! PROOFS. Merging: the record that a merge rewrites, and the entries of two frame reports (R164, R165). -/

namespace Sys2Proof.Machine

variable {s : State}

/-! ## The newest target -/

theorem exists_lastWhere {α : Type} {p : α → Bool} {xs : List α} {x : α} (inList : x ∈ xs) (isTarget : p x = true) :
    ∃ n, lastWhere p xs = some n := by
  induction inList with
  | head rest =>
    cases later : lastWhere p rest with
    | none => exact ⟨0, by simp [lastWhere, later, isTarget]⟩
    | some n => exact ⟨n + 1, by simp [lastWhere, later]⟩
  | tail first _ ih =>
    obtain ⟨n, found⟩ := ih
    exact ⟨n + 1, by simp [lastWhere, found]⟩

theorem lastWhere_eq_some_iff {α : Type} {p : α → Bool} {xs : List α} {i : Nat} :
    lastWhere p xs = some i ↔
      (∃ x, xs[i]? = some x ∧ p x = true) ∧ ∀ m r, i < m → xs[m]? = some r → p r = false := by
  induction xs generalizing i with
  | nil => simp [lastWhere]
  | cons first rest ih =>
    cases later : lastWhere p rest with
    | some n =>
      obtain ⟨⟨x, atN, isTarget⟩, newest⟩ := ih.mp later
      simp only [lastWhere, later, Option.some.injEq]
      constructor
      · rintro rfl
        refine ⟨⟨x, atN, isTarget⟩, fun m r after atM => ?_⟩
        obtain ⟨m, rfl⟩ := Nat.exists_eq_succ_of_ne_zero (Nat.ne_zero_of_lt after)
        exact newest m r (Nat.lt_of_succ_lt_succ after) atM
      · rintro ⟨⟨y, atI, isY⟩, last⟩
        have notBefore : ¬ i < n + 1 := fun before => by
          have := last (n + 1) x before atN
          simp [isTarget] at this
        have notAfter : ¬ n + 1 < i := fun after => by
          obtain ⟨i, rfl⟩ := Nat.exists_eq_succ_of_ne_zero (Nat.ne_zero_of_lt after)
          have := newest i y (Nat.lt_of_succ_lt_succ after) atI
          simp [isY] at this
        omega
    | none =>
      have absent : ∀ (m : Nat) (r : α), rest[m]? = some r → p r = false := by
        intro m r atM
        by_contra isTarget
        obtain ⟨n, found⟩ := exists_lastWhere (List.mem_iff_getElem?.mpr ⟨m, atM⟩) (by simpa using isTarget)
        exact nomatch later.symm.trans found
      simp only [lastWhere, later]
      constructor
      · intro found
        split at found
        next isTarget =>
          obtain rfl : 0 = i := Option.some.inj found
          refine ⟨⟨first, rfl, isTarget⟩, fun m r after atM => ?_⟩
          obtain ⟨m, rfl⟩ := Nat.exists_eq_succ_of_ne_zero (Nat.ne_zero_of_lt after)
          exact absent m r atM
        next => exact nomatch found
      · rintro ⟨⟨x, atI, isTarget⟩, -⟩
        cases i with
        | zero =>
          obtain rfl : first = x := Option.some.inj atI
          exact if_pos isTarget
        | succ i => exact absurd isTarget (by simp [absent i x atI])
theorem Body.targets_iff (b : Body) (r : Record) :
    b.targets r = true ↔
      (∃ x y, b = .frameReport x ∧ r.body = .frameReport y ∧ x.surface = y.surface) ∨
      (∃ x y, b = .penReport x ∧ r.body = .penReport y) ∨
      (∃ x y, b = .gestureUpdate x ∧ r.body = .gestureUpdate y) := by
  constructor
  · intro target
    simp only [Body.targets] at target
    split at target
    next x y isY => exact .inl ⟨x, y, rfl, isY, beq_iff_eq.mp target⟩
    next x y isY => exact .inr (.inl ⟨x, y, rfl, isY⟩)
    next x y isY => exact .inr (.inr ⟨x, y, rfl, isY⟩)
    next => exact nomatch target
  · rintro (⟨x, y, rfl, isY, same⟩ | ⟨x, y, rfl, isY⟩ | ⟨x, y, rfl, isY⟩)
    · simp [Body.targets, isY, same]
    · simp [Body.targets, isY]
    · simp [Body.targets, isY]

/-- Bodies that merge are of one of three kinds. -/
theorem Body.mergeWith_eq_some {new target merged : Body} (merge : new.mergeWith target = some merged) :
    (∃ x y z, new = .frameReport x ∧ target = .frameReport y ∧ merged = .frameReport z ∧
      mergeFrameReport y x = some z) ∨
    (∃ x y z, new = .penReport x ∧ target = .penReport y ∧ merged = .penReport z ∧ mergePenReport y x = some z) ∨
    (∃ x y z, new = .gestureUpdate x ∧ target = .gestureUpdate y ∧ merged = .gestureUpdate z ∧
      mergeUpdate y x = some z) := by
  unfold Body.mergeWith at merge
  split at merge
  case h_1 x y =>
    obtain ⟨z, merges, rfl⟩ := Option.map_eq_some_iff.mp merge
    exact .inl ⟨x, y, z, rfl, rfl, rfl, merges⟩
  case h_2 x y =>
    obtain ⟨z, merges, rfl⟩ := Option.map_eq_some_iff.mp merge
    exact .inr (.inl ⟨x, y, z, rfl, rfl, rfl, merges⟩)
  case h_3 x y =>
    obtain ⟨z, merges, rfl⟩ := Option.map_eq_some_iff.mp merge
    exact .inr (.inr ⟨x, y, z, rfl, rfl, rfl, merges⟩)
  case h_4 => exact nomatch merge

/-- The merge that R164 and R165 ask for happens: the newest target, unread, takes the merged body. -/
theorem State.mergedQueue_of_newest {sequence : Byte} {timestamp : BitVec 16} {b merged : Body} {n : Nat} {old : Record}
    (at_n : s.queue[n]? = some old) (target : b.targets old = true)
    (newest : ∀ m r, n < m → s.queue[m]? = some r → b.targets r = false) (unread : s.delivering = true → n ≠ 0)
    (merge : b.mergeWith old.body = some merged) :
    s.mergedQueue sequence timestamp b =
      some (s.queue.set n { old with sequence := sequence, timestamp := timestamp, body := merged }) := by
  have last : lastWhere b.targets s.queue = some n := lastWhere_eq_some_iff.mpr ⟨⟨old, at_n, target⟩, newest⟩
  have notUnder : ¬ ((n == 0 && s.delivering) = true) := by
    intro under
    obtain ⟨isHead, delivering⟩ := (Bool.and_eq_true _ _).mp under
    exact unread delivering (beq_iff_eq.mp isHead)
  simp only [State.mergedQueue, last, notUnder, at_n, merge, Option.map_some, Bool.false_eq_true, if_false]

/-! ## Pen reports and updates (R165) -/

theorem mergePenReport_eq_some_iff {y x z : PenReport} :
    mergePenReport y x = some z ↔
      (y.state = x.state ∧ y.tip = x.tip ∧ y.barrel = x.barrel ∧ y.eraser = x.eraser ∧ y.batteryLow = x.batteryLow) ∧
        z = { x with merged := min 255 (y.merged + x.merged) } := by
  rw [mergePenReport, Option.ite_none_right_eq_some]
  simp [and_assoc, eq_comm (a := z)]

theorem mergeUpdate_eq_some_iff {y x z : GestureUpdate} :
    mergeUpdate y x = some z ↔ y.number = x.number ∧
      z = { number := x.number, dx := clamp16 (y.dx + x.dx), dy := clamp16 (y.dy + x.dy),
            dspread := clamp16 (y.dspread + x.dspread), fingers := x.fingers,
            merged := min 255 (y.merged + x.merged) } := by
  rw [mergeUpdate, Option.ite_none_right_eq_some]
  simp [eq_comm (a := z)]

/-! ## The entries of two frame reports (R164) -/

/-- An entry of the unread report and one of the new report that R164's table merges. -/
def MergesInto (e n : FrameEntry) : Prop :=
  (e.state = .down ∧ n.state = .move) ∨ (e.state = .move ∧ n.state ≠ .down)

/-- What R164's table makes of the two. -/
theorem mergeEntry_of_mergesInto {e n : FrameEntry} (allowed : MergesInto e n) :
    ∃ r, mergeEntry e n = some r ∧ (e.state = .down → r = { n with state := .down }) ∧ (e.state = .move → r = n) := by
  rcases allowed with ⟨down, move⟩ | ⟨move, notDown⟩
  · exact ⟨{ n with state := .down }, by simp [mergeEntry, down, move], by simp, by simp [down]⟩
  · refine ⟨n, ?_, by simp [move], by simp⟩
    cases newState : n.state with
    | down => exact absurd newState notDown
    | move => simp [mergeEntry, move, newState]
    | up => simp [mergeEntry, move, newState]
    | cancel => simp [mergeEntry, move, newState]

theorem mergesInto_of_mergeEntry {e n r : FrameEntry} (merge : mergeEntry e n = some r) :
    MergesInto e n ∧ r.contact = n.contact := by
  unfold mergeEntry at merge
  split at merge
  case h_1 isDown isMove => exact ⟨.inl ⟨isDown, isMove⟩, (Option.some.inj merge) ▸ rfl⟩
  case h_5 => exact nomatch merge
  all_goals
    next isMove newState =>
      exact ⟨.inr ⟨isMove, by simp [newState]⟩, (Option.some.inj merge) ▸ rfl⟩

theorem mergeEntry_isSome_iff {e n : FrameEntry} : (mergeEntry e n).isSome = true ↔ MergesInto e n := by
  constructor
  · intro isSome
    obtain ⟨r, merge⟩ := Option.isSome_iff_exists.mp isSome
    exact (mergesInto_of_mergeEntry merge).left
  · intro allowed
    obtain ⟨r, merge, -⟩ := mergeEntry_of_mergesInto allowed
    exact merge ▸ rfl

/-- An entry with its partner among new entries merged in. -/
def pairedWith (news : List FrameEntry) (e : FrameEntry) : FrameEntry :=
  match news.find? (fun n => n.contact == e.contact) with
  | some n => (mergeEntry e n).getD e
  | none => e

/-- A new entry has no partner. -/
def unpaired (entries : List FrameEntry) (n : FrameEntry) : Bool := entries.all (fun e => e.contact != n.contact)

theorem unpaired_iff {entries : List FrameEntry} {n : FrameEntry} :
    unpaired entries n = true ↔ ∀ e ∈ entries, e.contact ≠ n.contact := by
  simp [unpaired]

theorem contact_of_find? {news : List FrameEntry} {e n : FrameEntry}
    (found : news.find? (fun n => n.contact == e.contact) = some n) : n.contact = e.contact := by
  simpa using List.find?_some found

theorem pairedWith_of_absent {news : List FrameEntry} {e : FrameEntry} (absent : ∀ n ∈ news, n.contact ≠ e.contact) :
    pairedWith news e = e := by
  have notFound : news.find? (fun n => n.contact == e.contact) = none := by simpa using absent
  simp only [pairedWith, notFound]

theorem pairedWith_of_partner {news : List FrameEntry} (distinct : (news.map (·.contact)).Nodup) {e n r : FrameEntry}
    (inNews : n ∈ news) (same : n.contact = e.contact) (merge : mergeEntry e n = some r) : pairedWith news e = r := by
  obtain ⟨m, found⟩ : ∃ m, news.find? (fun n => n.contact == e.contact) = some m :=
    Option.isSome_iff_exists.mp (List.find?_isSome.mpr ⟨n, inNews, beq_iff_eq.mpr same⟩)
  have isN : m = n := List.inj_on_of_nodup_map distinct (List.mem_of_find?_eq_some found) inNews
    ((contact_of_find? found).trans same.symm)
  simp only [pairedWith, found, isN, merge, Option.getD_some]

/-- Pairing with a list is pairing with its first entry and then with the others. -/
theorem pairedWith_cons {n : FrameEntry} {rest : List FrameEntry} (distinct : ((n :: rest).map (·.contact)).Nodup)
    (e : FrameEntry) : pairedWith rest (pairedWith [n] e) = pairedWith (n :: rest) e := by
  obtain ⟨fresh, -⟩ := List.nodup_cons.mp distinct
  by_cases same : n.contact = e.contact
  · have alone : pairedWith [n] e = (mergeEntry e n).getD e := by simp [pairedWith, same]
    have whole : pairedWith (n :: rest) e = (mergeEntry e n).getD e := by simp [pairedWith, same]
    have contact : (pairedWith [n] e).contact = n.contact := by
      rw [alone]
      cases merge : mergeEntry e n with
      | none => exact same.symm
      | some r => exact (mergesInto_of_mergeEntry merge).right
    rw [pairedWith_of_absent (fun m inRest isSame => fresh (List.mem_map.mpr ⟨m, inRest, isSame.trans contact⟩)),
      alone, whole]
  · have skipped : pairedWith [n] e = e := pairedWith_of_absent (by simpa using same)
    rw [skipped]
    simp [pairedWith, same]

theorem mergeInto_of_unpaired {entries : List FrameEntry} {n : FrameEntry} (alone : unpaired entries n = true) :
    mergeInto entries n = some (entries ++ [n]) := by
  have notFound : entries.findIdx? (fun e => e.contact == n.contact) = none := by
    simpa using unpaired_iff.mp alone
  simp only [mergeInto, notFound]

theorem mergeInto_of_partner {entries : List FrameEntry} (distinct : (entries.map (·.contact)).Nodup) {e n : FrameEntry}
    (inEntries : e ∈ entries) (same : e.contact = n.contact) :
    mergeInto entries n = (mergeEntry e n).map (fun _ => entries.map (pairedWith [n])) := by
  obtain ⟨i, found⟩ : ∃ i, entries.findIdx? (fun e => e.contact == n.contact) = some i :=
    Option.isSome_iff_exists.mp ((List.findIdx?_isSome).trans (List.any_eq_true.mpr ⟨e, inEntries, beq_iff_eq.mpr same⟩))
  obtain ⟨inside, matches_, -⟩ := List.findIdx?_eq_some_iff_getElem.mp found
  have isE : entries[i] = e := List.inj_on_of_nodup_map distinct (List.getElem_mem inside) inEntries
    ((beq_iff_eq.mp matches_).trans same.symm)
  simp only [mergeInto, found, List.getElem?_eq_getElem inside, isE]
  cases merge : mergeEntry e n with
  | none => rfl
  | some r =>
    refine congrArg some (List.ext_getElem (by simp) fun k insideSet insideMap => ?_)
    rw [List.getElem_map, List.getElem_set]
    have insideK : k < entries.length := by simpa using insideMap
    split
    next isI =>
      subst isI
      exact (isE ▸ pairedWith_of_partner (news := [n]) (List.nodup_singleton n.contact)
        (List.mem_singleton_self n) same.symm merge).symm
    next other =>
      refine (pairedWith_of_absent fun m isN sameContact => other ?_).symm
      rw [List.mem_singleton.mp isN] at sameContact
      have equal : entries[i] = entries[k] := List.inj_on_of_nodup_map distinct (List.getElem_mem inside)
        (List.getElem_mem insideK) ((beq_iff_eq.mp matches_).trans sameContact)
      exact (List.Nodup.of_map _ distinct).getElem_inj_iff.mp equal

/-- The contacts stand when every entry is merged with its partner. -/
theorem pairedWith_contact (news : List FrameEntry) (e : FrameEntry) : (pairedWith news e).contact = e.contact := by
  unfold pairedWith
  split
  next n found =>
    cases merge : mergeEntry e n with
    | none => rfl
    | some r => exact (mergesInto_of_mergeEntry merge).right.trans (contact_of_find? found)
  next => rfl

theorem map_pairedWith_contact (news entries : List FrameEntry) :
    (entries.map (pairedWith news)).map (·.contact) = entries.map (·.contact) := by
  rw [List.map_map]
  exact List.map_congr_left fun e _ => pairedWith_contact news e

theorem unpaired_map_pairedWith (news entries : List FrameEntry) (n : FrameEntry) :
    unpaired (entries.map (pairedWith news)) n = unpaired entries n := by
  simp [unpaired, List.all_map, Function.comp_def, pairedWith_contact]

/-- Every entry with a partner is one that R164's table merges with it. -/
def AllMerge (entries news : List FrameEntry) : Prop :=
  ∀ e ∈ entries, ∀ n ∈ news, n.contact = e.contact → MergesInto e n

theorem allMerge_cons {entries rest : List FrameEntry} {n : FrameEntry} :
    AllMerge entries (n :: rest) ↔ (∀ e ∈ entries, n.contact = e.contact → MergesInto e n) ∧ AllMerge entries rest := by
  simp only [AllMerge, List.forall_mem_cons, forall_and]

/-- After one entry is merged in, the others meet the entries that were there. -/
theorem allMerge_map_pairedWith {entries rest : List FrameEntry} {n : FrameEntry}
    (fresh : ∀ m ∈ rest, m.contact ≠ n.contact) :
    AllMerge (entries.map (pairedWith [n])) rest ↔ AllMerge entries rest := by
  simp only [AllMerge, List.forall_mem_map, pairedWith_contact]
  refine forall₂_congr fun e _ => forall₃_congr fun m inRest same => ?_
  rw [pairedWith_of_absent]
  intro k isN
  rw [List.mem_singleton.mp isN]
  exact fun sameN => fresh m inRest (same.trans sameN.symm)

theorem allMerge_append_fresh {entries rest : List FrameEntry} {n : FrameEntry}
    (fresh : ∀ m ∈ rest, m.contact ≠ n.contact) : AllMerge (entries ++ [n]) rest ↔ AllMerge entries rest := by
  simp only [AllMerge, List.forall_mem_append, List.forall_mem_singleton]
  exact and_iff_left fun m inRest same => absurd same (fresh m inRest)

/-- Merging new entries in, one after the other, in one equation for each outcome. -/
theorem foldlM_mergeInto {entries news : List FrameEntry} (distinct : (entries.map (·.contact)).Nodup)
    (distinctNew : (news.map (·.contact)).Nodup) :
    (AllMerge entries news →
      news.foldlM mergeInto entries = some (entries.map (pairedWith news) ++ news.filter (unpaired entries))) ∧
    (¬ AllMerge entries news → news.foldlM mergeInto entries = none) := by
  induction news generalizing entries with
  | nil =>
    refine ⟨fun _ => ?_, fun fails => absurd (fun _ _ _ none_new => absurd none_new List.not_mem_nil) fails⟩
    have same : entries.map (pairedWith []) = entries := List.map_id'' (fun _ => rfl) entries
    simp [same]
  | cons n rest ih =>
    obtain ⟨notInRest, distinctRest⟩ := List.nodup_cons.mp distinctNew
    have fresh : ∀ m ∈ rest, m.contact ≠ n.contact := fun m inRest same =>
      notInRest (List.mem_map.mpr ⟨m, inRest, same⟩)
    rw [List.foldlM_cons, allMerge_cons]
    by_cases alone : unpaired entries n = true
    · have noPartner := unpaired_iff.mp alone
      have distinctLonger : ((entries ++ [n]).map (·.contact)).Nodup := by
        rw [List.map_append, List.map_singleton, List.nodup_append_comm]
        refine List.nodup_cons.mpr ⟨fun inEntries => ?_, distinct⟩
        obtain ⟨e, isEntry, same⟩ := List.mem_map.mp inEntries
        exact noPartner e isEntry same
      obtain ⟨merges, fails⟩ := ih distinctLonger distinctRest
      rw [allMerge_append_fresh fresh] at merges fails
      have first : ∀ e ∈ entries, n.contact = e.contact → MergesInto e n := fun e inEntries same =>
        absurd same.symm (noPartner e inEntries)
      rw [mergeInto_of_unpaired alone, Option.bind_eq_bind, Option.bind_some, and_iff_right first]
      refine ⟨fun all => (merges all).trans (congrArg some ?_), fails⟩
      have pairs : entries.map (pairedWith (n :: rest)) = entries.map (pairedWith rest) :=
        List.map_congr_left fun e inEntries => by
          rw [← pairedWith_cons distinctNew, pairedWith_of_absent (news := [n])]
          intro m isN
          rw [List.mem_singleton.mp isN]
          exact (noPartner e inEntries).symm
      have keeps : rest.filter (unpaired (entries ++ [n])) = rest.filter (unpaired entries) :=
        List.filter_congr fun m inRest => by
          simp [unpaired, (fresh m inRest).symm]
      rw [List.map_append, List.map_singleton, pairedWith_of_absent fresh, keeps, pairs,
        List.filter_cons_of_pos alone, List.append_assoc, List.singleton_append]
    · obtain ⟨e, inEntries, same⟩ : ∃ e ∈ entries, e.contact = n.contact := by
        simpa [unpaired_iff] using alone
      rw [mergeInto_of_partner distinct inEntries same]
      by_cases allowed : MergesInto e n
      · obtain ⟨r, merge, -⟩ := mergeEntry_of_mergesInto allowed
        obtain ⟨merges, fails⟩ :=
          ih (entries := entries.map (pairedWith [n])) (map_pairedWith_contact [n] entries ▸ distinct) distinctRest
        rw [allMerge_map_pairedWith fresh] at merges fails
        have first : ∀ k ∈ entries, n.contact = k.contact → MergesInto k n := fun k isEntry sameK =>
          List.inj_on_of_nodup_map distinct inEntries isEntry (same.trans sameK) ▸ allowed
        rw [merge, Option.map_some, Option.bind_eq_bind, Option.bind_some, and_iff_right first]
        refine ⟨fun all => (merges all).trans (congrArg some ?_), fails⟩
        rw [List.map_map, List.filter_cons_of_neg alone,
          List.map_congr_left (show ∀ k ∈ entries, (pairedWith rest ∘ pairedWith [n]) k = pairedWith (n :: rest) k from
            fun k _ => pairedWith_cons distinctNew k),
          List.filter_congr (fun m _ => unpaired_map_pairedWith [n] entries m)]
      · have refused : mergeEntry e n = none :=
          Option.not_isSome_iff_eq_none.mp fun isSome => allowed (mergeEntry_isSome_iff.mp isSome)
        rw [refused]
        exact ⟨fun all => absurd (all.left e inEntries same.symm) allowed, fun _ => rfl⟩

/-- Frame reports merge when their switch states agree, at most 16 entries result and every pair merges. -/
theorem mergeFrameReport_eq_some_iff {y x z : FrameReport} (distinct : (y.entries.map (·.contact)).Nodup)
    (distinctNew : (x.entries.map (·.contact)).Nodup) :
    mergeFrameReport y x = some z ↔
      y.switchClosed = x.switchClosed ∧ AllMerge y.entries x.entries ∧
        y.entries.length + (x.entries.filter (unpaired y.entries)).length ≤ 16 ∧
        z = { surface := x.surface, switchClosed := x.switchClosed, merged := min 255 (y.merged + x.merged)
              entries := y.entries.map (pairedWith x.entries) ++ x.entries.filter (unpaired y.entries) } := by
  obtain ⟨merges, fails⟩ := foldlM_mergeInto distinct distinctNew
  by_cases all : AllMerge y.entries x.entries
  · simp [mergeFrameReport, merges all, all, eq_comm (a := z)]
  · simp [mergeFrameReport, fails all, all]

/-- What holds of every merged frame report, whatever its entries (R164). -/
theorem mergeFrameReport_frame {y x z : FrameReport} (merge : mergeFrameReport y x = some z) :
    y.switchClosed = x.switchClosed ∧ z.surface = x.surface ∧ z.switchClosed = x.switchClosed ∧
      z.entries.length ≤ 16 ∧ z.merged = min 255 (y.merged + x.merged) := by
  unfold mergeFrameReport at merge
  split at merge
  · exact nomatch merge
  next agree =>
    split at merge
    · exact nomatch merge
    next entries _ =>
      split at merge
      · exact nomatch merge
      next fits =>
        obtain rfl := Option.some.inj merge
        exact ⟨by simpa using agree, rfl, rfl, Nat.le_of_not_lt fits, rfl⟩

/-! ## Merges (R164, R165) -/

/-- R164's table, entry by entry. -/
theorem mergeFrameReport_entries {y x : FrameReport} (distinct : (y.entries.map (·.contact)).Nodup)
    (distinctNew : (x.entries.map (·.contact)).Nodup) :
    let added := x.entries.filter (unpaired y.entries)
    ((mergeFrameReport y x).isSome = true ↔
      y.switchClosed = x.switchClosed ∧ y.entries.length + added.length ≤ 16 ∧ AllMerge y.entries x.entries) ∧
    (∀ z, mergeFrameReport y x = some z →
      z.entries.drop y.entries.length = added ∧
      (∀ (m : Nat) (e : FrameEntry), y.entries[m]? = some e →
        ((∀ n ∈ x.entries, n.contact ≠ e.contact) → z.entries[m]? = some e) ∧
        (∀ n ∈ x.entries, n.contact = e.contact →
          (e.state = .down → z.entries[m]? = some { n with state := .down }) ∧
          (e.state = .move → z.entries[m]? = some n)))) := by
  refine ⟨?_, fun z merge => ?_⟩
  · rw [Option.isSome_iff_exists]
    constructor
    · rintro ⟨z, merge⟩
      obtain ⟨agree, all, fits, -⟩ := (mergeFrameReport_eq_some_iff distinct distinctNew).mp merge
      exact ⟨agree, fits, all⟩
    · rintro ⟨agree, fits, all⟩
      exact ⟨_, (mergeFrameReport_eq_some_iff distinct distinctNew).mpr ⟨agree, all, fits, rfl⟩⟩
  · obtain ⟨-, all, -, rfl⟩ := (mergeFrameReport_eq_some_iff distinct distinctNew).mp merge
    refine ⟨List.drop_left' (List.length_map _), fun m e at_m => ?_⟩
    have inEntries : e ∈ y.entries := List.mem_iff_getElem?.mpr ⟨m, at_m⟩
    obtain ⟨inside, -⟩ := List.getElem?_eq_some_iff.mp at_m
    have paired : (y.entries.map (pairedWith x.entries) ++ x.entries.filter (unpaired y.entries))[m]? =
        some (pairedWith x.entries e) := by
      rw [List.getElem?_append_left (by simpa using inside), List.getElem?_map, at_m, Option.map_some]
    refine ⟨fun absent => paired.trans (congrArg some (pairedWith_of_absent absent)), fun n inNew same => ?_⟩
    obtain ⟨r, merges, whenDown, whenMove⟩ := mergeEntry_of_mergesInto (all e inEntries n inNew same)
    have isR := paired.trans (congrArg some (pairedWith_of_partner distinctNew inNew same merges))
    exact ⟨fun down => isR.trans (congrArg some (whenDown down)), fun move => isR.trans (congrArg some (whenMove move))⟩

/-- What a merge makes of the queue and of the merged bodies. -/
theorem State.merge_rewrites {sequence : Byte} {timestamp : BitVec 16} {b : Body} {q : List Record}
    (merges : s.mergedQueue sequence timestamp b = some q) :
    ∃ (n : Nat) (old new : Record), s.queue[n]? = some old ∧ q = s.queue.set n new ∧
      (b.kindCode = 1 ∨ b.kindCode = 2 ∨ b.kindCode = 4) ∧ old.body.kindCode = b.kindCode ∧
      new.body.kindCode = b.kindCode ∧ new.placed = old.placed ∧ new.sequence = sequence ∧
      new.timestamp = timestamp ∧ (s.delivering = true → n ≠ 0) ∧
      (∀ m r, n < m → s.queue[m]? = some r → b.targets r = false) ∧
      (∀ x y z, b = .frameReport x → old.body = .frameReport y → new.body = .frameReport z →
        x.surface = y.surface ∧ z.surface = y.surface ∧ x.switchClosed = y.switchClosed ∧
        z.switchClosed = y.switchClosed ∧ z.entries.length ≤ 16 ∧ z.merged = min 255 (y.merged + x.merged)) ∧
      (∀ x y z, b = .gestureUpdate x → old.body = .gestureUpdate y → new.body = .gestureUpdate z →
        z.number = y.number ∧ x.number = y.number ∧ z.dx = max (-32768) (min 32767 (y.dx + x.dx)) ∧
        z.dy = max (-32768) (min 32767 (y.dy + x.dy)) ∧
        z.dspread = max (-32768) (min 32767 (y.dspread + x.dspread)) ∧ z.fingers = x.fingers ∧
        z.merged = min 255 (y.merged + x.merged)) ∧
      (∀ x y z, b = .penReport x → old.body = .penReport y → new.body = .penReport z →
        z = { x with merged := min 255 (y.merged + x.merged) } ∧ x.state = y.state ∧ x.tip = y.tip ∧
        x.barrel = y.barrel ∧ x.eraser = y.eraser ∧ x.batteryLow = y.batteryLow) := by
  obtain ⟨n, old, merged, last, unread, at_n, merge, rfl⟩ := State.mergedQueue_eq_some merges
  obtain ⟨⟨target, at_n', isTarget⟩, newest⟩ := lastWhere_eq_some_iff.mp last
  obtain rfl : old = target := Option.some.inj (at_n.symm.trans at_n')
  refine ⟨n, old, _, at_n, rfl, ?_, ?_, ?_, rfl, rfl, rfl, fun delivering first => unread ⟨first, delivering⟩, newest,
    ?_, ?_, ?_⟩
  · rcases Body.mergeWith_eq_some merge with ⟨x, _, _, rfl, -⟩ | ⟨x, _, _, rfl, -⟩ | ⟨x, _, _, rfl, -⟩
    · exact .inl rfl
    · exact .inr (.inl rfl)
    · exact .inr (.inr rfl)
  · rcases Body.mergeWith_eq_some merge with ⟨x, y, _, rfl, isY, -⟩ | ⟨x, y, _, rfl, isY, -⟩ | ⟨x, y, _, rfl, isY, -⟩
    · rw [isY]; rfl
    · rw [isY]; rfl
    · rw [isY]; rfl
  · rcases Body.mergeWith_eq_some merge with ⟨x, _, z, rfl, -, rfl, -⟩ | ⟨x, _, z, rfl, -, rfl, -⟩ | ⟨x, _, z, rfl, -, rfl, -⟩
    · rfl
    · rfl
    · rfl
  · rintro x y z rfl isY rfl
    rw [isY] at merge
    obtain ⟨w, bodies, same⟩ := Option.map_eq_some_iff.mp merge
    obtain rfl : w = z := Body.frameReport.inj same
    obtain ⟨agree, surface, closed, fits, count⟩ := mergeFrameReport_frame bodies
    have sameSurface : x.surface = y.surface := by simpa [Body.targets, isY] using isTarget
    exact ⟨sameSurface, surface.trans sameSurface, agree.symm, closed.trans agree.symm, fits, count⟩
  · rintro x y z rfl isY rfl
    rw [isY] at merge
    obtain ⟨w, bodies, same⟩ := Option.map_eq_some_iff.mp merge
    obtain rfl : w = z := Body.gestureUpdate.inj same
    obtain ⟨number, rfl⟩ := mergeUpdate_eq_some_iff.mp bodies
    exact ⟨number.symm, number.symm, rfl, rfl, rfl, rfl, rfl⟩
  · rintro x y z rfl isY rfl
    rw [isY] at merge
    obtain ⟨w, bodies, same⟩ := Option.map_eq_some_iff.mp merge
    obtain rfl : w = z := Body.penReport.inj same
    obtain ⟨⟨state, tip, barrel, eraser, battery⟩, isZ⟩ := mergePenReport_eq_some_iff.mp bodies
    exact ⟨isZ, state.symm, tip.symm, barrel.symm, eraser.symm, battery.symm⟩

/-- Settles O40: the newest target of a merge, and the merge of two entry lists as one map and one filter, by induction
on the new entries. -/
theorem mergesRewriteOneUnreadRecord : Obligations.MergesRewriteOneUnreadRecord := by
  refine ⟨fun s sequence timestamp b q merges => State.merge_rewrites merges,
    fun y x distinct distinctNew => mergeFrameReport_entries distinct distinctNew, Body.targets_iff, ?_⟩
  intro s sequence timestamp b n old at_n newest unread
  refine ⟨?_, ?_, ?_⟩
  · rintro x y z rfl isY surface merges
    refine State.mergedQueue_of_newest at_n ((Body.targets_iff _ _).mpr (.inl ⟨x, y, rfl, isY, surface⟩)) newest unread ?_
    rw [isY]
    exact Option.map_eq_some_iff.mpr ⟨z, merges, rfl⟩
  · rintro x y rfl isY state tip barrel eraser battery
    refine State.mergedQueue_of_newest at_n ((Body.targets_iff _ _).mpr (.inr (.inl ⟨x, y, rfl, isY⟩))) newest unread ?_
    rw [isY]
    exact Option.map_eq_some_iff.mpr ⟨_, mergePenReport_eq_some_iff.mpr
      ⟨⟨state.symm, tip.symm, barrel.symm, eraser.symm, battery.symm⟩, rfl⟩, rfl⟩
  · rintro x y rfl isY number
    refine State.mergedQueue_of_newest at_n ((Body.targets_iff _ _).mpr (.inr (.inr ⟨x, y, rfl, isY⟩))) newest unread ?_
    rw [isY]
    refine Option.map_eq_some_iff.mpr ⟨_, mergeUpdate_eq_some_iff.mpr ⟨number.symm, rfl⟩, ?_⟩
    rw [number]
    rfl

end Sys2Proof.Machine
end

section
/-! PROOFS. The range of reported positions, the pressure curve, and the pen's data word (R100, R130, R131, R139). -/

namespace Sys2Proof.Machine

/-! ## Reported positions (R100) -/

/-- A position within an extent is scaled into 0..l. -/
theorem scaled_within {p e : Int} (l : Nat) (from_zero : 0 ≤ p) (inside : p < e) :
    0 ≤ p * ((l : Int) + 1) / e ∧ p * ((l : Int) + 1) / e ≤ l := by
  have extent : 0 < e := from_zero.trans_lt inside
  refine ⟨Int.ediv_nonneg (Int.mul_nonneg from_zero (by omega)) extent.le, Int.lt_add_one_iff.mp ?_⟩
  rw [Int.ediv_lt_iff_lt_mul extent, Int.mul_comm p]
  exact Int.mul_lt_mul_of_pos_left inside (by omega)

/-- A coordinate stays within its extent when its axis is inverted. -/
theorem inverted_within (invert : Bool) {p e : Int} (from_zero : 0 ≤ p) (inside : p < e) :
    0 ≤ (if invert then e - 1 - p else p) ∧ (if invert then e - 1 - p else p) < e := by
  cases invert with
  | false => exact ⟨from_zero, inside⟩
  | true => simp only [if_true]; omega

theorem logical_within (rep : Reporting) (g : Geometry) {x y : Int} (xFrom : 0 ≤ x) (xTo : x < g.wx) (yFrom : 0 ≤ y)
    (yTo : y < g.wy) :
    0 ≤ (logical rep g x y).1 ∧ (logical rep g x y).1 ≤ rep.lx ∧
      0 ≤ (logical rep g x y).2 ∧ (logical rep g x y).2 ≤ rep.ly := by
  obtain ⟨pxFrom, pxTo⟩ := inverted_within rep.invertX xFrom xTo
  obtain ⟨pyFrom, pyTo⟩ := inverted_within rep.invertY yFrom yTo
  cases swap : rep.swap with
  | false =>
    obtain ⟨outXFrom, outXTo⟩ := scaled_within rep.lx pxFrom pxTo
    obtain ⟨outYFrom, outYTo⟩ := scaled_within rep.ly pyFrom pyTo
    simp only [logical, extents, swap, Bool.false_eq_true, if_false]
    exact ⟨outXFrom, outXTo, outYFrom, outYTo⟩
  | true =>
    obtain ⟨outXFrom, outXTo⟩ := scaled_within rep.lx pyFrom pyTo
    obtain ⟨outYFrom, outYTo⟩ := scaled_within rep.ly pxFrom pxTo
    simp only [logical, extents, swap, if_true]
    exact ⟨outXFrom, outXTo, outYFrom, outYTo⟩

/-! ## The pressure curve (R139) -/

/-- A curve point's output value. -/
def curveValue (curve : List CurvePoint) (n : Nat) : Int := ((curve.getD n .atReset).value : Int)

theorem curveValue_le_succ {curve : List CurvePoint} (loaded : ∀ p ∈ curve, p.loaded = true)
    (rises : curveDecreases curve = false) {k : Nat} (inside : k + 1 < curve.length) :
    curveValue curve k ≤ curveValue curve (k + 1) := by
  induction curve generalizing k with
  | nil => exact absurd inside (Nat.not_lt_zero _)
  | cons a tail ih =>
    cases tail with
    | nil => exact absurd (Nat.lt_of_succ_lt_succ inside) (Nat.not_lt_zero k)
    | cons b rest =>
      obtain ⟨first, later⟩ := Bool.or_eq_false_iff.mp rises
      cases k with
      | zero =>
        have loadedA : a.loaded = true := loaded a List.mem_cons_self
        have loadedB : b.loaded = true := loaded b (List.mem_cons_of_mem a List.mem_cons_self)
        have notBelow : a.value ≤ b.value := by simpa [loadedA, loadedB] using first
        exact Int.ofNat_le.mpr notBelow
      | succ k =>
        exact ih (fun p inTail => loaded p (List.mem_cons_of_mem a inTail)) later (Nat.lt_of_succ_lt_succ inside)

theorem curveValue_mono {curve : List CurvePoint} (loaded : ∀ p ∈ curve, p.loaded = true)
    (rises : curveDecreases curve = false) {a b : Nat} (order : a ≤ b) (inside : b < curve.length) :
    curveValue curve a ≤ curveValue curve b := by
  induction b, order using Nat.le_induction with
  | base => exact le_rfl
  | succ b order ih => exact (ih (Nat.lt_of_succ_lt inside)).trans (curveValue_le_succ loaded rises inside)

/-- A step of m of 512 along a rise of h. -/
theorem rise_within {m h : Int} (rises : 0 ≤ h) (from_zero : 0 ≤ m) (inside : m ≤ 512) :
    0 ≤ m * h / 512 ∧ m * h / 512 ≤ h := by
  have below : m * h ≤ 512 * h := Int.mul_le_mul_of_nonneg_right inside rises
  have above : 0 ≤ m * h := Int.mul_nonneg from_zero rises
  omega

theorem curveOutput_eq (curve : List CurvePoint) (r : Nat) :
    curveOutput curve r = curveValue curve (r / 512) +
      ((r : Int) - 512 * (r / 512 : Nat)) * (curveValue curve (r / 512 + 1) - curveValue curve (r / 512)) / 512 := rfl

/-- The output lies between the two points of its segment. -/
theorem curveOutput_between {curve : List CurvePoint} {r : Nat}
    (rises : curveValue curve (r / 512) ≤ curveValue curve (r / 512 + 1)) :
    curveValue curve (r / 512) ≤ curveOutput curve r ∧ curveOutput curve r ≤ curveValue curve (r / 512 + 1) := by
  have within := rise_within (h := curveValue curve (r / 512 + 1) - curveValue curve (r / 512)) (by omega)
    (m := (r : Int) - 512 * (r / 512 : Nat)) (by omega) (by omega)
  rw [curveOutput_eq]
  omega

theorem curveOutput_mono {curve : List CurvePoint} (length : curve.length = 9) (loaded : ∀ p ∈ curve, p.loaded = true)
    (rises : curveDecreases curve = false) {r r' : Nat} (order : r ≤ r') (top : r' ≤ 4095) :
    curveOutput curve r ≤ curveOutput curve r' := by
  have segment : ∀ {a b : Nat}, a ≤ b → b ≤ 8 → curveValue curve a ≤ curveValue curve b := fun before inside =>
    curveValue_mono loaded rises before (by omega)
  rcases Nat.eq_or_lt_of_le (Nat.div_le_div_right (c := 512) order) with same | earlier
  · have rise : curveValue curve (r / 512) ≤ curveValue curve (r / 512 + 1) := segment (Nat.le_succ _) (by omega)
    have steps : ((r : Int) - 512 * (r / 512 : Nat)) * (curveValue curve (r / 512 + 1) - curveValue curve (r / 512)) ≤
        ((r' : Int) - 512 * (r / 512 : Nat)) * (curveValue curve (r / 512 + 1) - curveValue curve (r / 512)) :=
      Int.mul_le_mul_of_nonneg_right (by omega) (by omega)
    rw [curveOutput_eq, curveOutput_eq, ← same]
    omega
  · calc curveOutput curve r
        ≤ curveValue curve (r / 512 + 1) := (curveOutput_between (segment (Nat.le_succ _) (by omega))).right
      _ ≤ curveValue curve (r' / 512) := segment earlier (by omega)
      _ ≤ curveOutput curve r' := (curveOutput_between (segment (Nat.le_succ _) (by omega))).left

/-- Settles O33: each coordinate is scaled within its extent, and each segment of the curve rises within its points. -/
theorem reportedValuesStayInRange : Obligations.ReportedValuesStayInRange := by
  refine ⟨fun rep g x y xFrom xTo yFrom yTo => logical_within rep g xFrom xTo yFrom yTo, ?_⟩
  intro curve length loaded rises r r' order top
  obtain ⟨lower, upper⟩ := curveOutput_between (r := r) (curveValue_le_succ loaded rises (by omega))
  exact ⟨curveOutput_mono length loaded rises order top, lower, upper⟩

/-! ## The syndrome and the parity of a word (R131) -/

/-- The exclusive-or of the positions whose bit is 1. -/
def xorOf (bits : Nat → Bool) (places : List Nat) (start : Nat) : Nat :=
  places.foldl (fun s i => if bits i then s ^^^ i else s) start

theorem xorOf_xor (a b : Nat → Bool) (places : List Nat) (x y : Nat) :
    xorOf (fun i => a i ^^ b i) places (x ^^^ y) = xorOf a places x ^^^ xorOf b places y := by
  induction places generalizing x y with
  | nil => rfl
  | cons i rest ih =>
    have first : (if (a i ^^ b i) = true then x ^^^ y ^^^ i else x ^^^ y) =
        (if a i = true then x ^^^ i else x) ^^^ (if b i = true then y ^^^ i else y) := by
      cases a i with
      | false => cases b i with
        | false => rfl
        | true => exact Nat.xor_assoc x y i
      | true => cases b i with
        | false => exact Nat.xor_right_comm x y i
        | true =>
          change x ^^^ y = x ^^^ i ^^^ (y ^^^ i)
          rw [Nat.xor_comm y i, ← Nat.xor_assoc, Nat.xor_xor_cancel_right]
    simp only [xorOf, List.foldl_cons] at ih ⊢
    rw [first]
    exact ih _ _

theorem syndrome_eq (w : BitVec 26) : syndrome w = xorOf (fun i => w.getLsbD i) (upTo 26) 0 := rfl

theorem syndrome_xor (a b : BitVec 26) : syndrome (a ^^^ b) = syndrome a ^^^ syndrome b := by
  simp only [syndrome_eq, BitVec.getLsbD_xor]
  exact xorOf_xor _ _ (upTo 26) 0 0

/-- The parity of the bits at some places. -/
def parityOf (bits : Nat → Bool) (places : List Nat) (start : Bool) : Bool :=
  places.foldl (fun p i => p != bits i) start

theorem parityOf_xor (a b : Nat → Bool) (places : List Nat) (x y : Bool) :
    parityOf (fun i => a i ^^ b i) places (x ^^ y) = (parityOf a places x ^^ parityOf b places y) := by
  induction places generalizing x y with
  | nil => rfl
  | cons i rest ih =>
    have first : ((x ^^ y) != (a i ^^ b i)) = ((x != a i) ^^ (y != b i)) := by
      simp only [Bool.bne_eq_xor, Bool.xor_assoc, Bool.xor_left_comm]
    simp only [parityOf, List.foldl_cons] at ih ⊢
    rw [first]
    exact ih _ _

theorem parity_eq (w : BitVec 26) : parity w = parityOf (fun i => w.getLsbD i) (upTo 26) false := rfl

theorem parity_xor (a b : BitVec 26) : parity (a ^^^ b) = (parity a ^^ parity b) := by
  simp only [parity_eq, BitVec.getLsbD_xor]
  exact parityOf_xor _ _ (upTo 26) false false

/-- A word of one bit has that bit's position as its syndrome, and odd parity. -/
theorem syndrome_parity_bit {n : Nat} (inside : n < 26) :
    syndrome (1#26 <<< n) = n ∧ parity (1#26 <<< n) = true := by
  have all : ∀ n : Fin 26, syndrome (1#26 <<< n.val) = n.val ∧ parity (1#26 <<< n.val) = true := by decide
  exact all ⟨n, inside⟩

/-- The positions of the bits that are 1. -/
def onesOf (w : BitVec 26) : List Nat := (List.range 26).filter (fun n => w.getLsbD n)

theorem foldl_onesOf (w : BitVec 26) : (onesOf w).foldl (· ^^^ ·) 0 = syndrome w := List.foldl_filter

theorem parityOf_iff (bits : Nat → Bool) (places : List Nat) (start : Bool) :
    parityOf bits places start = (start ^^ decide ((places.filter bits).length % 2 = 1)) := by
  induction places generalizing start with
  | nil => simp [parityOf]
  | cons i rest ih =>
    have next : parityOf bits (i :: rest) start = parityOf bits rest (start != bits i) := rfl
    rw [next, ih]
    cases bit : bits i with
    | false => simp [List.filter_cons_of_neg, bit]
    | true =>
      have flips : decide (((i :: rest).filter bits).length % 2 = 1) =
          !decide ((rest.filter bits).length % 2 = 1) := by
        rw [List.filter_cons_of_pos bit, List.length_cons, ← decide_not]
        exact decide_eq_decide.mpr (by omega)
      rw [flips]
      cases start <;> simp

theorem parity_iff (w : BitVec 26) : parity w = true ↔ (onesOf w).length % 2 = 1 := by
  rw [parity_eq, parityOf_iff, Bool.false_xor]
  exact decide_eq_true_iff

/-! ## The data fields (R130) -/

theorem numberAt_eq_sum (w : BitVec 26) (places : List Nat) :
    numberAt w places = ((places.zipIdx).map (fun p => if w.getLsbD p.1 = true then 2 ^ p.2 else 0)).sum := by
  have shifted : ∀ k : Nat, ((places.zipIdx k).map (fun p => if w.getLsbD p.1 = true then 2 ^ p.2 else 0)).sum =
      2 ^ k * numberAt w places := by
    induction places with
    | nil => intro k; rfl
    | cons i rest ih =>
      intro k
      have first : numberAt w (i :: rest) = (if w.getLsbD i then 1 else 0) + 2 * numberAt w rest := rfl
      rw [List.zipIdx_cons, List.map_cons, List.sum_cons, ih, first]
      split
      · ring
      · ring
  rw [shifted 0, Nat.pow_zero, Nat.one_mul]

theorem getLsbD_flip_zero (w : BitVec 26) {i : Nat} (other : i ≠ 0) :
    (w ^^^ (1#26 <<< 0)).getLsbD i = w.getLsbD i := by
  simp [BitVec.getLsbD_one, other]

theorem numberAt_flip_zero (w : BitVec 26) {places : List Nat} (others : 0 ∉ places) :
    numberAt (w ^^^ (1#26 <<< 0)) places = numberAt w places := by
  induction places with
  | nil => rfl
  | cons i rest ih =>
    obtain ⟨first, later⟩ := not_or.mp (List.mem_cons.not.mp others)
    simp only [numberAt, List.foldr_cons, getLsbD_flip_zero w (Ne.symm first)] at ih ⊢
    rw [ih later]

/-- The bit at position 0 is no part of the data. -/
theorem penData_flip_zero (w : BitVec 26) : penData (w ^^^ (1#26 <<< 0)) = penData w := by
  simp only [penData]
  rw [numberAt_flip_zero w (by decide), numberAt_flip_zero w (by decide), getLsbD_flip_zero w (by decide),
    getLsbD_flip_zero w (by decide), getLsbD_flip_zero w (by decide), getLsbD_flip_zero w (by decide)]

theorem xor_bit_cancel (w e : BitVec 26) : w ^^^ e ^^^ e = w := by
  rw [BitVec.xor_assoc, BitVec.xor_self, BitVec.xor_zero]

/-! ## The outcomes (R131) -/

section

variable {w : BitVec 26}

theorem decodeWord_of_zero (zero : syndrome w = 0) :
    decodeWord w = .usable (if parity w then .corrected else .clean) (penData w) := by
  simp [decodeWord, zero]

theorem decodeWord_of_single (one : 1 ≤ syndrome w) (inside : syndrome w ≤ 25) (odd : parity w = true) :
    decodeWord w = .usable .corrected (penData (w ^^^ (1#26 <<< syndrome w))) := by
  have nonzero : syndrome w ≠ 0 := Nat.ne_zero_of_lt one
  simp [decodeWord, nonzero, inside, odd]

theorem decodeWord_of_even (one : 1 ≤ syndrome w) (even : parity w = false) : decodeWord w = .uncorrectable := by
  have nonzero : syndrome w ≠ 0 := Nat.ne_zero_of_lt one
  simp [decodeWord, nonzero, even]

theorem decodeWord_of_beyond (beyond : 26 ≤ syndrome w) : decodeWord w = .uncorrectable := by
  have nonzero : syndrome w ≠ 0 := by omega
  have outside : ¬ syndrome w ≤ 25 := by omega
  simp [decodeWord, nonzero, outside]

theorem decodeWord_clean_iff {d : PenData} :
    decodeWord w = .usable .clean d ↔ syndrome w = 0 ∧ parity w = false ∧ penData w = d := by
  by_cases zero : syndrome w = 0
  · rw [decodeWord_of_zero zero]
    cases odd : parity w with
    | false => simp [zero]
    | true => simp
  · have one : 1 ≤ syndrome w := Nat.one_le_iff_ne_zero.mpr zero
    refine iff_of_false (fun clean => ?_) (fun isClean => zero isClean.left)
    cases odd : parity w with
    | false => exact nomatch (decodeWord_of_even one odd).symm.trans clean
    | true =>
      rcases Nat.lt_or_ge 25 (syndrome w) with beyond | inside
      · exact nomatch (decodeWord_of_beyond beyond).symm.trans clean
      · exact nomatch (decodeWord_of_single one inside odd).symm.trans clean

end

/-- Settles O36: syndrome and parity are linear in the word, and a single bit's syndrome is its position. -/
theorem penWordsDecodeByTheirSyndrome : Obligations.PenWordsDecodeByTheirSyndrome := by
  refine ⟨?flips, ?table⟩
  case flips =>
    intro w d clean
    obtain ⟨zero, even, rfl⟩ := decodeWord_clean_iff.mp clean
    refine ⟨fun n inside => ?_, fun m n before inside => ?_⟩
    · obtain ⟨place, odd⟩ := syndrome_parity_bit inside
      have syndromeIs : syndrome (w ^^^ (1#26 <<< n)) = n := by rw [syndrome_xor, zero, place, Nat.zero_xor]
      have parityIs : parity (w ^^^ (1#26 <<< n)) = true := by rw [parity_xor, even, odd]; rfl
      rcases Nat.eq_zero_or_pos n with rfl | positive
      · rw [decodeWord_of_zero syndromeIs, parityIs, penData_flip_zero]
        rfl
      · rw [decodeWord_of_single (by omega) (by omega) parityIs, syndromeIs, xor_bit_cancel]
    · obtain ⟨placeM, oddM⟩ := syndrome_parity_bit (before.trans inside)
      obtain ⟨placeN, oddN⟩ := syndrome_parity_bit inside
      have syndromeIs : syndrome (w ^^^ (1#26 <<< m) ^^^ (1#26 <<< n)) = m ^^^ n := by
        rw [syndrome_xor, syndrome_xor, zero, placeM, placeN, Nat.zero_xor]
      have parityIs : parity (w ^^^ (1#26 <<< m) ^^^ (1#26 <<< n)) = false := by
        rw [parity_xor, parity_xor, even, oddM, oddN]; rfl
      have differ : m ^^^ n ≠ 0 := fun same => before.ne (Nat.xor_eq_zero_iff.mp same)
      exact decodeWord_of_even (syndromeIs ▸ Nat.one_le_iff_ne_zero.mpr differ) parityIs
  case table =>
    intro w ones s odd number fields
    have syndromeIs : s = syndrome w := foldl_onesOf w
    have parityIs : parity w = true ↔ odd := parity_iff w
    have fieldsIs : ∀ c, fields c = penData c := by
      intro c
      simp only [penData, numberAt_eq_sum]
      rfl
    rw [syndromeIs, fieldsIs, fieldsIs]
    refine ⟨fun zero even => ?_, fun zero isOdd => ?_, fun one inside isOdd => ?_, fun beyond _ => ?_, fun one even => ?_⟩
    · exact decodeWord_clean_iff.mpr ⟨zero, Bool.eq_false_iff.mpr (parityIs.not.mpr even), rfl⟩
    · rw [decodeWord_of_zero zero, parityIs.mpr isOdd, if_pos rfl]
    · exact decodeWord_of_single one inside (parityIs.mpr isOdd)
    · exact decodeWord_of_beyond beyond
    · exact decodeWord_of_even one (Bool.eq_false_iff.mpr (parityIs.not.mpr even))

end Sys2Proof.Machine
end

section
/-! PROOFS. The pen stage: signal and position, the counts of a word, the frame's completion and its report (R126 to
R141). -/

namespace Sys2Proof.Machine

variable {s : State}

/-! ## Signal and position (R128, R129) -/

/-- The peak of a profile stands at the first of its equal maxima. -/
theorem profilePeak_spec {profile : List Int} (nonempty : profile ≠ []) :
    ∃ (line : Nat) (top : Int), profilePeak profile = (top, line) ∧ profile[line]? = some top ∧
      ∀ (m : Nat) (x : Int), profile[m]? = some x → x ≤ top ∧ (m < line → x < top) := by
  cases profile with
  | nil => exact absurd rfl nonempty
  | cons a rest =>
    obtain ⟨bounds, n, inProfile, isTop⟩ := foldl_max_of_cons id a rest
    have isMember : rest.foldl max a ∈ a :: rest := isTop ▸ inProfile
    refine ⟨_, _, rfl, List.getElem?_idxOf isMember, fun m x at_m => ?_⟩
    have upTo : x ≤ rest.foldl max a := bounds x (List.mem_iff_getElem?.mpr ⟨m, at_m⟩)
    refine ⟨upTo, fun before => upTo.lt_of_ne fun same => ?_⟩
    obtain ⟨inside, isX⟩ := List.getElem?_eq_some_iff.mp at_m
    have differs := List.not_of_lt_findIdx (p := (· == rest.foldl max a)) (xs := a :: rest) before
    simp [isX, same] at differs

theorem axisPosition_eq {profile : List Int} {line : Nat} {top : Int} (peak : profilePeak profile = (top, line))
    (extent : Int) :
    let lower := if line = 0 then 0 else profile.getD (line - 1) 0
    let upper := profile.getD (line + 1) 0
    let bend := 2 * top - lower - upper
    let offset := if bend = 0 then 0 else (2 * (32 * (upper - lower)) + bend) / (2 * bend)
    axisPosition profile extent = max 0 (min (extent - 1) (64 * line + 32 + max (-32) (min 31 offset))) := by
  intro lower upper bend offset
  have sameLower : (if line == 0 then 0 else profile.getD (line - 1) 0) = lower := if_congr beq_iff_eq rfl rfl
  have sameOffset : (if bend == 0 then 0 else clampInt (-32) 31 (rounded (32 * (upper - lower)) bend)) =
      max (-32) (min 31 offset) := by
    by_cases flat : bend = 0
    · simp [offset, flat]
    · simp only [beq_iff_eq, flat, if_false, offset]
      rfl
  simp only [axisPosition, peak, sameLower]
  exact congrArg (fun o => max 0 (min (extent - 1) (64 * (line : Int) + 32 + o))) sameOffset

theorem signalPresent_iff {threshold : Nat} {sense drive : List Int} :
    signalPresent threshold sense drive = true ↔
      (threshold : Int) ≤ (profilePeak sense).1 ∧ (threshold : Int) ≤ (profilePeak drive).1 := by
  simp [signalPresent]

/-! ## The record (R132 to R137) -/

theorem PenRecord.ageOut_of_old {p : PenRecord} (old : 8 < p.dataAge) : p.ageOut = { p with tip := false, raw := 0 } :=
  if_pos old

theorem PenRecord.ageOut_of_recent {p : PenRecord} (recent : ¬ 8 < p.dataAge) : p.ageOut = p := if_neg recent

theorem PenRecord.presentData_of_usable {p : PenRecord} {n : Nat} {w : BitVec 26} {q : Quality} {d : PenData}
    (decodes : decodeWord w = .usable q d) : p.presentData n (some w) = p.takeData q d := by
  simp only [PenRecord.presentData, decodes]
  exact PenRecord.ageOut_of_recent (Nat.not_lt_zero 8)

theorem PenRecord.presentData_of_held {p : PenRecord} {n : Nat} {word : Option (BitVec 26)}
    (held : word = none ∨ ∃ w, word = some w ∧ decodeWord w = .uncorrectable) :
    p.presentData n word = (p.holdData n).ageOut := by
  rcases held with rfl | ⟨w, rfl, fails⟩
  · rfl
  · simp only [PenRecord.presentData, fails]

theorem PenRecord.leaves_iff {p : PenRecord} {n hold : Nat} :
    p.leaves n hold = true ↔ p.state ≠ .outOfRange ∧ hold < p.missing + n := by
  simp [PenRecord.leaves]

theorem PenRecord.absent_of_out {p : PenRecord} (out : p.state = .outOfRange) (n hold : Nat) : p.absent n hold = p := by
  simp [PenRecord.absent, out]

theorem PenRecord.absent_of_leaves {p : PenRecord} {n hold : Nat} (leaves : p.leaves n hold = true) :
    p.absent n hold = { p with state := .outOfRange, coasting := false, missing := 0 } := by
  obtain ⟨inRange, -⟩ := PenRecord.leaves_iff.mp leaves
  simp [PenRecord.absent, inRange, leaves]

theorem PenRecord.absent_of_coasts {p : PenRecord} {n hold : Nat} (inRange : p.state ≠ .outOfRange)
    (coasts : p.leaves n hold = false) : p.absent n hold = { p with missing := p.missing + n, coasting := true } := by
  simp [PenRecord.absent, inRange, coasts]

/-! ## The report (R139 to R141) -/

theorem penReportOf_eq (rep : Reporting) (g : Geometry) (curve : List CurvePoint) (p : PenRecord) :
    let o := fun (n : Nat) => ((curve.getD n .atReset).value : Int)
    let k := p.raw / 512
    penReportOf rep g curve p =
      { state := p.state, x := (logical rep g p.x p.y).1, y := (logical rep g p.x p.y).2
        pressure := if p.state = .contact then o k + ((p.raw : Int) - 512 * k) * (o (k + 1) - o k) / 512 else 0
        tip := if p.state = .outOfRange then false else p.tip, barrel := p.barrel, eraser := p.eraser
        batteryLow := p.batteryLow, coasting := p.coasting, tag := p.tag, quality := p.quality, merged := 1 } := by
  intro o k
  have tip : (p.tip && p.state != .outOfRange) = if p.state = .outOfRange then false else p.tip := by
    cases p.state <;> simp
  have pressure : (if p.state == .contact then curveOutput curve p.raw else 0) =
      if p.state = .contact then o k + ((p.raw : Int) - 512 * k) * (o (k + 1) - o k) / 512 else 0 :=
    if_congr beq_iff_eq rfl rfl
  rw [← tip, ← pressure]
  rfl

/-! ## The counts of a word (R132, R133) -/

theorem State.raiseFault_noted (b : Bool) (k : FaultKind) (src : FaultSource) (q : Byte) (d : Nat) :
    ({ s with headWaited := b } : State).raiseFault k src q d = { s.raiseFault k src q d with headWaited := b } := by
  have alert (u : State) (f : FaultRecord) :
      ({ u with headWaited := b } : State).requestAlert f = { u.requestAlert f with headWaited := b } := by
    unfold State.requestAlert
    rw [show ({ u with headWaited := b } : State).alertPresent = u.alertPresent from rfl]
    split
    · rfl
    · rfl
  unfold State.raiseFault
  dsimp only
  split
  · cases s.fault with
    | some f => rfl
    | none =>
      exact alert (s.withFault (some { kind := k, source := src, sequence := q, detail := d, timestamp := low16 s.time,
                                       more := false })) _
  · rfl

theorem State.countWord_of_clean {q : Byte} {w : BitVec 26} {d : PenData} (clean : decodeWord w = .usable .clean d) :
    s.countWord q (some w) = s := by
  simp only [State.countWord, clean]

theorem State.countWord_of_corrected {q : Byte} {w : BitVec 26} {d : PenData}
    (corrected : decodeWord w = .usable .corrected d) :
    s.countWord q (some w) = { s with penCorrected := bump s.penCorrected 1 } := by
  simp only [State.countWord, corrected]

theorem State.countWord_of_uncorrectable {q : Byte} {w : BitVec 26} (fails : decodeWord w = .uncorrectable) :
    s.countWord q (some w) = ({ s with penUncorrectable := bump s.penUncorrectable 1 } : State).raiseFault
      .penUncorrectable .pen q (syndrome w + (if parity w then 32 else 0)) := by
  simp only [State.countWord, fails]

theorem State.countWord_of_held {q : Byte} {w : BitVec 26} {d : PenData} (held : decodeWord w = .usable .held d) :
    s.countWord q (some w) = s := by
  simp only [State.countWord, held]

/-- The detail of an uncorrectable word: its syndrome and its parity. -/
theorem uncorrectable_detail (w : BitVec 26) :
    syndrome w + (if parity w then 32 else 0) =
      (onesOf w).foldl (· ^^^ ·) 0 + 32 * ((onesOf w).length % 2) := by
  rw [foldl_onesOf]
  cases odd : parity w with
  | true => rw [(parity_iff w).mp odd]; rfl
  | false =>
    have even : (onesOf w).length % 2 = 0 := by
      have notOdd := (parity_iff w).not.mp (by simp [odd])
      omega
    rw [even]
    rfl

theorem State.countWord_frame (q : Byte) (word : Option (BitVec 26)) :
    ∃ c u f r a, s.countWord q word =
      { s with penCorrected := c, penUncorrectable := u, fault := f, queue := r, attn := a } := by
  cases word with
  | none => exact ⟨_, _, _, _, _, rfl⟩
  | some w =>
    cases decodes : decodeWord w with
    | uncorrectable =>
      rw [State.countWord_of_uncorrectable decodes]
      obtain ⟨f, r, a, h⟩ := State.raiseFault_frame { s with penUncorrectable := bump s.penUncorrectable 1 }
        .penUncorrectable .pen q (syndrome w + (if parity w then 32 else 0))
      exact ⟨s.penCorrected, _, f, r, a, h⟩
    | usable quality d =>
      cases quality with
      | clean => exact ⟨_, _, _, _, _, State.countWord_of_clean decodes⟩
      | held => exact ⟨_, _, _, _, _, State.countWord_of_held decodes⟩
      | corrected =>
        exact ⟨_, s.penUncorrectable, s.fault, s.queue, s.attn, State.countWord_of_corrected decodes⟩

/-- The counts of a word and the wait of the request at the head are independent. -/
theorem State.noteWait_countWord (q : Byte) (word : Option (BitVec 26)) :
    s.noteWait.countWord q word = { s.countWord q word with headWaited := s.headWaited || s.headWaits } := by
  cases word with
  | none => rfl
  | some w =>
    cases decodes : decodeWord w with
    | uncorrectable =>
      rw [State.countWord_of_uncorrectable decodes, State.countWord_of_uncorrectable decodes]
      exact State.raiseFault_noted (s := { s with penUncorrectable := bump s.penUncorrectable 1 }) _ _ _ _ _
    | usable quality d =>
      cases quality with
      | clean => rw [State.countWord_of_clean decodes, State.countWord_of_clean decodes]; rfl
      | held => rw [State.countWord_of_held decodes, State.countWord_of_held decodes]; rfl
      | corrected => rw [State.countWord_of_corrected decodes, State.countWord_of_corrected decodes]; rfl

/-! ## The next frame (R25, R176) -/

/-- Once a wait is noted, the head holds what it held before the frame left flight. -/
theorem State.headHold_of_noted {t : State} (claim : t.headClaim = s.headClaim)
    (noted : t.headWaited = (s.headWaited || s.headWaits)) (fewer : t.headWaits = true → s.headWaits = true) :
    t.headHold = s.headHold := by
  have same : (t.headWaited || t.headWaits) = (s.headWaited || s.headWaits) := by
    rw [noted]
    cases waits : t.headWaits with
    | false => simp
    | true => simp [fewer waits]
  simp only [State.headHold, same, claim]

/-- A frame that has left flight does not make a request wait. -/
theorem State.headWaits_of_fewer {t : State} (claim : t.headClaim = s.headClaim)
    (images : ∀ i, (t.surface i).imageFlight.isSome = true → (s.surface i).imageFlight.isSome = true)
    (pens : ∀ i, (t.surface i).penFlight.isSome = true → (s.surface i).penFlight.isSome = true)
    (waits : t.headWaits = true) : s.headWaits = true := by
  unfold State.headWaits at waits ⊢
  rw [claim] at waits
  cases claimed : s.headClaim with
  | none => simp [claimed] at waits
  | some held =>
    obtain ⟨i, both⟩ := held
    simp only [claimed, Bool.or_eq_true, Bool.and_eq_true] at waits ⊢
    exact waits.imp (images i) (And.imp_right (pens i))

/-- What is held for the next IMAGE frame, once the wait of the frame that leaves is noted. -/
theorem State.holdsImage_of_noted {t : State} (claim : t.headClaim = s.headClaim)
    (noted : t.headWaited = (s.headWaited || s.headWaits))
    (images : ∀ i, (t.surface i).imageFlight.isSome = true → (s.surface i).imageFlight.isSome = true)
    (pens : ∀ i, (t.surface i).penFlight.isSome = true → (s.surface i).penFlight.isSome = true) (i : SurfaceId) :
    t.holdsImage i = s.holdsImage i := by
  have same := State.headHold_of_noted claim noted (State.headWaits_of_fewer claim images pens)
  rw [State.holdsImage, State.holdsImage, same]

theorem State.holdsPen_of_noted {t : State} (claim : t.headClaim = s.headClaim)
    (noted : t.headWaited = (s.headWaited || s.headWaits))
    (images : ∀ i, (t.surface i).imageFlight.isSome = true → (s.surface i).imageFlight.isSome = true)
    (pens : ∀ i, (t.surface i).penFlight.isSome = true → (s.surface i).penFlight.isSome = true) (i : SurfaceId) :
    t.holdsPen i = s.holdsPen i := by
  have same := State.headHold_of_noted claim noted (State.headWaits_of_fewer claim images pens)
  rw [State.holdsPen, State.holdsPen, same]

theorem State.takePen_eq (i : SurfaceId) : s.takePen i = s.withSurface i ((s.surface i).penTaken (s.holdsPen i)) :=
  State.takePenUnless_eq _ i

/-- A state as the pen stage leaves it before the next frame is taken: PANEL's frame has left flight, the wait is noted,
and an offer may have reached the queue. -/
structure PenStageDone (s done reported : State) : Prop where
  completed : ∃ p l c u f q a, done = { s with
    pen := p, linger := l, penCorrected := c, penUncorrectable := u, fault := f, queue := q, attn := a
    panel := { s.panel with penFlight := none }, headWaited := s.headWaited || s.headWaits }
  offered : ∃ q a m d x f, reported = { done with
    queue := q, attn := a, mergedCount := m, deferredCount := d, droppedCount := x, fault := f }

/-- The next waiting frame is taken unless it is held (R25). -/
theorem PenStageDone.takePen {done reported : State} (stands : PenStageDone s done reported) :
    let t := reported.takePen .panel
    t.pen = done.pen ∧ t.linger = done.linger ∧ t.queue = reported.queue ∧
      t.panel = { s.panel with
        penSlot := if s.holdsPen .panel then s.panel.penSlot else none
        penFlight := if s.holdsPen .panel then none else s.panel.penSlot } ∧
      t = { s with
        panel := t.panel, pen := t.pen, linger := t.linger, penCorrected := t.penCorrected,
        penUncorrectable := t.penUncorrectable, queue := t.queue, attn := t.attn, mergedCount := t.mergedCount,
        deferredCount := t.deferredCount, droppedCount := t.droppedCount, fault := t.fault
        headWaited := s.headWaited || s.headWaits } ∧
      t.penCorrected = done.penCorrected ∧ t.penUncorrectable = done.penUncorrectable := by
  obtain ⟨⟨p, l, c, u, f, q, a, rfl⟩, q', a', m, d, x, f', rfl⟩ := stands
  intro t
  have holds : State.holdsPen { s with
      pen := p, linger := l, penCorrected := c, penUncorrectable := u, fault := f', queue := q', attn := a'
      panel := { s.panel with penFlight := none }, headWaited := s.headWaited || s.headWaits
      mergedCount := m, deferredCount := d, droppedCount := x } .panel = s.holdsPen .panel := by
    refine State.holdsPen_of_noted (s := s) ?_ ?_ (fun i => ?_) (fun i => ?_) .panel
    · rfl
    · rfl
    · cases i with
      | pad => exact id
      | panel => exact id
    · cases i with
      | pad => exact id
      | panel => exact fun inFlight => nomatch inFlight
  have taken : t = { s with
      pen := p, linger := l, penCorrected := c, penUncorrectable := u, fault := f', queue := q', attn := a'
      panel := ({ s.panel with penFlight := none } : Surface).penTaken (s.holdsPen .panel)
      headWaited := s.headWaited || s.headWaits, mergedCount := m, deferredCount := d, droppedCount := x } := by
    rw [← holds]
    exact State.takePen_eq .panel
  have panel : ({ s.panel with penFlight := none } : Surface).penTaken (s.holdsPen .panel) = { s.panel with
      penSlot := if s.holdsPen .panel then s.panel.penSlot else none
      penFlight := if s.holdsPen .panel then none else s.panel.penSlot } := by
    cases s.holdsPen .panel <;> rfl
  rw [panel] at taken
  rw [taken]
  exact ⟨rfl, rfl, rfl, rfl, rfl, rfl, rfl⟩

/-- A due report is offered in an unmasked posture, from a record whose last sequence it does not read (R140, R141). -/
theorem State.offerPenReport_eq {done : State} {p p' : PenRecord} (q : Byte) (u : BitVec 16)
    (same : { p with lastSequence := p'.lastSequence } = p') :
    done.offerPenReport q u p =
      if done.panel.reporting.mask.getLsbD (codeIn postureOrder done.posture) = true then
        (done.offer q u (.penReport (penReportOf done.panel.reporting done.panel.geometry done.curve p'))).2
      else done := by
  rw [← same]
  rfl

theorem exec_penStage (started : s.started = true) : exec .penStage s = .next s.penStage :=
  congrArg Host.Outcome.next (if_pos started)

theorem State.penStage_of_signal {f : PenFrame} (taken : s.panel.penFlight = some f)
    (present : signalPresent s.penBlock.hoverThreshold (s.panel.senseProfile f.samples)
      (s.panel.driveProfile f.samples) = true) :
    s.penStage = (s.noteWait.penFramePresent f (s.panel.senseProfile f.samples)
      (s.panel.driveProfile f.samples)).takePen .panel := by
  simp only [State.penStage, taken, present, if_true]

theorem State.penStage_of_silence {f : PenFrame} (taken : s.panel.penFlight = some f)
    (silent : signalPresent s.penBlock.hoverThreshold (s.panel.senseProfile f.samples)
      (s.panel.driveProfile f.samples) = false) :
    s.penStage = (s.noteWait.penFrameAbsent f).takePen .panel := by
  simp only [State.penStage, taken, silent, Bool.false_eq_true, if_false]

/-! ## The stage with signal (R132 to R136, R140) -/

/-- Settles O37: the record is one chain of updates, the counts come before it, and the report and the next frame after
it. -/
theorem penFrameWithSignalPlacesThePen : Obligations.PenFrameWithSignalPlacesThePen := by
  refine ⟨?stage, fun profile extent nonempty => ?axis⟩
  case axis =>
    obtain ⟨line, top, peak, at_line, first⟩ := profilePeak_spec nonempty
    exact ⟨line, top, peak, at_line, first, axisPosition_eq peak extent⟩
  case stage =>
    intro s f started taken v sense drive reportOf senseSignal driveSignal
    obtain ⟨c, u, fault, q, a, counts⟩ := s.countWord_frame f.sequence f.word
    let p : PenRecord := (s.pen.presentData f.elapsed f.word).present (axisPosition sense v.geometry.wx)
      (axisPosition drive v.geometry.wy)
    let done : State := { s.countWord f.sequence f.word with
      pen := { p with lastSequence := f.sequence }, linger := none, panel := { v with penFlight := none }
      headWaited := s.headWaited || s.headWaits }
    have isDone : (s.noteWait.countWord f.sequence f.word).completePen p none f.sequence = done := by
      rw [State.noteWait_countWord]
      simp only [done, counts]
      rfl
    have stage : s.penStage = (done.offerPenReport f.sequence (low16 f.arrival) p).takePen .panel := by
      rw [State.penStage_of_signal taken (signalPresent_iff.mpr ⟨senseSignal, driveSignal⟩), ← isDone]
      rfl
    have stands : PenStageDone s done (done.offerPenReport f.sequence (low16 f.arrival) p) :=
      ⟨⟨_, _, c, u, fault, q, a, by simp only [done, counts]; rfl⟩, done.offerPenReport_frame _ _ _⟩
    obtain ⟨pen, linger, -, panel, whole, -, -⟩ := stands.takePen
    rw [← stage] at pen linger panel whole
    have posture : done.posture = s.posture := by simp only [done, counts]
    have curve : done.curve = s.curve := by simp only [done, counts]
    have reported := State.offerPenReport_eq (done := done) (p := p) (p' := done.pen) f.sequence (low16 f.arrival) rfl
    rw [posture, curve, penReportOf_eq] at reported
    rw [reported] at stage
    refine ⟨s.penStage, exec_penStage started, ?_⟩
    rw [linger] at whole
    rw [pen, linger]
    refine ⟨rfl, rfl, rfl, rfl, rfl, rfl, rfl, fun w quality d sent decodes => ?usable, fun held => ?held, panel, pen ▸ whole,
      s.countWord f.sequence f.word, ?_, ?_, ?_, ?_, stage⟩
    case usable =>
      have data : s.pen.presentData f.elapsed f.word = s.pen.takeData quality d :=
        sent ▸ PenRecord.presentData_of_usable decodes
      simp only [done, p, data]
      exact ⟨rfl, rfl, rfl, rfl, rfl, rfl, rfl, rfl⟩
    case held =>
      have data := PenRecord.presentData_of_held (p := s.pen) (n := f.elapsed) held
      simp only [done, p, data]
      by_cases old : 8 < min 255 (s.pen.dataAge + f.elapsed)
      · rw [PenRecord.ageOut_of_old old, if_pos old, if_pos old]
        exact ⟨rfl, rfl, rfl, rfl, rfl, rfl, rfl, rfl⟩
      · rw [PenRecord.ageOut_of_recent old, if_neg old, if_neg old]
        exact ⟨rfl, rfl, rfl, rfl, rfl, rfl, rfl, rfl⟩
    · intro none_sent
      rw [none_sent]
      rfl
    · intro w d sent clean
      rw [sent, State.countWord_of_clean clean]
    · intro w d sent corrected
      exact sent ▸ State.countWord_of_corrected corrected
    · intro w sent fails
      exact sent ▸ (State.countWord_of_uncorrectable fails).trans
        (congrArg (State.raiseFault _ _ _ _) (uncorrectable_detail w))

/-! ## The stage without signal (R134, R137, R140) -/

/-- The record, the linger state and the report's record after a frame without signal (R134, R137, R120). -/
structure PenAbsence (s : State) (f : PenFrame) (record : PenRecord) (linger : Option Linger) (shown : PenRecord) :
    Prop where
  stage : s.noteWait.penFrameAbsent f =
    let done : State := { s with
      pen := { record with lastSequence := f.sequence }, linger := linger, panel := { s.panel with penFlight := none }
      headWaited := s.headWaited || s.headWaits }
    if s.pen.state = .outOfRange then done else done.offerPenReport f.sequence (low16 f.arrival) shown

/-- A pen that is out of range stays there (R134). -/
theorem penAbsence_of_out {f : PenFrame} (out : s.pen.state = .outOfRange) :
    PenAbsence s f (s.pen.holdData f.elapsed) s.linger (s.pen.holdData f.elapsed) := by
  have stays : (s.pen.holdData f.elapsed).leaves f.elapsed s.penBlock.penHold = false := by
    rw [Bool.eq_false_iff, Ne, PenRecord.leaves_iff]
    exact fun leaves => leaves.left out
  refine ⟨?_⟩
  simp only [State.penFrameAbsent, State.noteWait_pen, State.noteWait_penBlock, State.noteWait_linger, stays,
    PenRecord.absent_of_out (p := s.pen.holdData f.elapsed) out, out, beq_self_eq_true, Bool.false_eq_true, if_true,
    if_false]
  rfl

/-- A pen in range coasts while its missing count stays within pen_hold (R137). -/
theorem penAbsence_of_coasts {f : PenFrame} (inRange : s.pen.state ≠ .outOfRange)
    (within : s.pen.missing + f.elapsed ≤ s.penBlock.penHold) :
    let coasting : PenRecord :=
      { s.pen.holdData f.elapsed with missing := s.pen.missing + f.elapsed, coasting := true }
    PenAbsence s f coasting s.linger coasting := by
  have stays : (s.pen.holdData f.elapsed).leaves f.elapsed s.penBlock.penHold = false := by
    rw [Bool.eq_false_iff, Ne, PenRecord.leaves_iff]
    exact fun leaves => absurd leaves.right (Nat.not_lt.mpr within)
  refine ⟨?_⟩
  simp only [State.penFrameAbsent, State.noteWait_pen, State.noteWait_penBlock, State.noteWait_linger, stays,
    PenRecord.absent_of_coasts (p := s.pen.holdData f.elapsed) inRange stays, beq_iff_eq, inRange, Bool.false_eq_true,
    if_false]
  rfl

/-- Otherwise it leaves range, its data is cleared and the linger state is set (R137, R120). -/
theorem penAbsence_of_leaves {f : PenFrame} (inRange : s.pen.state ≠ .outOfRange)
    (beyond : s.penBlock.penHold < s.pen.missing + f.elapsed) :
    let out : PenRecord := { s.pen.holdData f.elapsed with state := .outOfRange, coasting := false, missing := 0 }
    PenAbsence s f out.clearData (s.lingerFrom out) out := by
  have leaves : (s.pen.holdData f.elapsed).leaves f.elapsed s.penBlock.penHold = true :=
    PenRecord.leaves_iff.mpr ⟨inRange, beyond⟩
  refine ⟨?_⟩
  simp only [State.penFrameAbsent, State.noteWait_pen, State.noteWait_penBlock, State.noteWait_linger, leaves,
    PenRecord.absent_of_leaves leaves, beq_iff_eq, inRange, if_true, if_false]
  rfl

/-- The stage's end, whatever becomes of the record (R25, R140). -/
theorem PenAbsence.ends {f : PenFrame} {record shown : PenRecord} {linger : Option Linger}
    (absence : PenAbsence s f record linger shown) :
    let t := (s.noteWait.penFrameAbsent f).takePen .panel
    let done : State := { s with
      pen := { record with lastSequence := f.sequence }, linger := linger, panel := { s.panel with penFlight := none }
      headWaited := s.headWaited || s.headWaits }
    t.pen = { record with lastSequence := f.sequence } ∧ t.linger = linger ∧
      (s.pen.state = .outOfRange → t.queue = s.queue) ∧
      t.panel = { s.panel with
        penSlot := if s.holdsPen .panel then s.panel.penSlot else none
        penFlight := if s.holdsPen .panel then none else s.panel.penSlot } ∧
      t = { s with
        panel := t.panel, pen := t.pen, linger := t.linger, queue := t.queue, attn := t.attn
        mergedCount := t.mergedCount, deferredCount := t.deferredCount, droppedCount := t.droppedCount, fault := t.fault
        headWaited := s.headWaited || s.headWaits } ∧
      t = (if s.pen.state = .outOfRange then done
        else done.offerPenReport f.sequence (low16 f.arrival) shown).takePen .panel := by
  intro t done
  have stage : s.noteWait.penFrameAbsent f =
      if s.pen.state = .outOfRange then done else done.offerPenReport f.sequence (low16 f.arrival) shown := absence.stage
  have stands : PenStageDone s done (s.noteWait.penFrameAbsent f) := by
    refine ⟨⟨_, _, s.penCorrected, s.penUncorrectable, s.fault, s.queue, s.attn, rfl⟩, ?_⟩
    rw [stage]
    split
    · exact ⟨done.queue, done.attn, done.mergedCount, done.deferredCount, done.droppedCount, done.fault, rfl⟩
    · exact done.offerPenReport_frame _ _ _
  obtain ⟨pen, lingers, queue, panel, whole, corrected, uncorrectable⟩ := stands.takePen
  refine ⟨pen, lingers, fun out => ?_, panel, ?_, congrArg (State.takePen · .panel) stage⟩
  · have isDone : s.noteWait.penFrameAbsent f = done := stage.trans (if_pos out)
    rw [queue, isDone]
  · rw [corrected, uncorrectable] at whole
    exact whole

/-- Settles O38: the pen stays out, coasts, or leaves, and its report is due unless it was out. -/
theorem penFrameWithoutSignalCoastsOrLeaves : Obligations.PenFrameWithoutSignalCoastsOrLeaves := by
  intro s f started taken silence aged v reportOf
  have silent : signalPresent s.penBlock.hoverThreshold (s.panel.senseProfile f.samples)
      (s.panel.driveProfile f.samples) = false := by
    rw [Bool.eq_false_iff, Ne, signalPresent_iff]
    omega
  have row : exec .penStage s = .next ((s.noteWait.penFrameAbsent f).takePen .panel) :=
    (exec_penStage started).trans (congrArg Host.Outcome.next (State.penStage_of_silence taken silent))
  refine ⟨_, row, ?_⟩
  by_cases out : s.pen.state = .outOfRange
  · obtain ⟨pen, linger, queue, panel, whole, ends⟩ := (penAbsence_of_out (f := f) out).ends
    refine ⟨fun _ => ⟨pen, linger, queue out⟩, fun inRange => absurd out inRange, fun inRange => absurd out inRange, panel,
      whole, ?_⟩
    rw [if_pos out] at ends
    rw [pen, linger]
    intro done shown reported
    have notDue : reported = done := if_neg fun due => due.left out
    rw [notDue]
    exact ends
  · rcases Nat.lt_or_ge s.penBlock.penHold (s.pen.missing + f.elapsed) with beyond | within
    · obtain ⟨pen, linger, -, panel, whole, ends⟩ := (penAbsence_of_leaves (f := f) out beyond).ends
      refine ⟨fun isOut => absurd isOut out, fun _ inside => absurd beyond (Nat.not_lt.mpr inside),
        fun _ _ => ⟨pen, linger.trans (if_congr beq_iff_eq rfl rfl)⟩, panel, whole, ?_⟩
      rw [if_neg out, State.offerPenReport_eq (p' := { aged with state := .outOfRange, coasting := false, missing := 0 })
        _ _ rfl, penReportOf_eq] at ends
      rw [pen, linger]
      intro done shown reported
      have isShown : shown = { aged with state := .outOfRange, coasting := false, missing := 0 } := if_pos rfl
      have due : reported = if v.reporting.mask.getLsbD (codeIn postureOrder s.posture) = true then
          (done.offer f.sequence (low16 f.arrival) (.penReport (reportOf shown))).2 else done :=
        if_congr (and_iff_right out) rfl rfl
      rw [due, isShown]
      exact ends
    · obtain ⟨pen, linger, -, panel, whole, ends⟩ := (penAbsence_of_coasts (f := f) out within).ends
      refine ⟨fun isOut => absurd isOut out, fun _ _ => ⟨pen, linger⟩,
        fun _ beyond => absurd beyond (Nat.not_lt.mpr within), panel, whole, ?_⟩
      rw [if_neg out, State.offerPenReport_eq (p' := { aged with missing := s.pen.missing + f.elapsed, coasting := true })
        _ _ rfl, penReportOf_eq] at ends
      rw [pen, linger]
      intro done shown reported
      have isShown : shown = { aged with missing := s.pen.missing + f.elapsed, coasting := true } := if_neg out
      have due : reported = if v.reporting.mask.getLsbD (codeIn postureOrder s.posture) = true then
          (done.offer f.sequence (low16 f.arrival) (.penReport (reportOf shown))).2 else done :=
        if_congr (and_iff_right out) rfl rfl
      rw [due, isShown]
      exact ends

end Sys2Proof.Machine
end

section
/-! PROOFS. Rejection: the zone lookup, what the pen suppresses, promotion and the per-frame checks (R78, R108 to
R119). -/

namespace Sys2Proof.Machine

variable {s : State} {q : RejectionInputs}

/-! ## Zones (R75 to R78) -/

/-- A used entry whose rectangle, clipped to the surface, holds the point. -/
def RejectionInputs.Inside (q : RejectionInputs) (x y : Int) (e : ZoneEntry) : Prop :=
  e.used = true ∧ (e.x0 : Int) ≤ x ∧ x ≤ min (e.x1 : Int) (64 * q.geometry.senseLines - 1) ∧
    (e.y0 : Int) ≤ y ∧ y ≤ min (e.y1 : Int) (64 * q.geometry.driveLines - 1)

theorem RejectionInputs.inside_iff {x y : Int} {e : ZoneEntry} :
    (e.used && e.contains q.geometry x y) = true ↔ q.Inside x y e := by
  simp only [ZoneEntry.contains, Bool.and_eq_true, decide_eq_true_eq, and_assoc]
  exact Iff.rfl

theorem RejectionInputs.policyAt_of_outside {x y : Int} (outside : ∀ e ∈ q.zones, ¬ q.Inside x y e) :
    q.policyAt x y = .openZone := by
  have notFound : q.zones.findIdx? (fun e => e.used && e.contains q.geometry x y) = none := by
    rw [List.findIdx?_eq_none_iff]
    exact fun e inZones => Bool.eq_false_iff.mpr (RejectionInputs.inside_iff.not.mpr (outside e inZones))
  simp only [RejectionInputs.policyAt, zoneLookup, notFound]

theorem RejectionInputs.policyAt_of_first {x y : Int} {m : Nat} {e : ZoneEntry} (at_m : q.zones[m]? = some e)
    (inside : q.Inside x y e) (first : ∀ (l : Nat) (d : ZoneEntry), l < m → q.zones[l]? = some d → ¬ q.Inside x y d) :
    q.policyAt x y = e.policy q.posture := by
  obtain ⟨within, isE⟩ := List.getElem?_eq_some_iff.mp at_m
  have found : q.zones.findIdx? (fun e => e.used && e.contains q.geometry x y) = some m := by
    rw [List.findIdx?_eq_some_iff_getElem]
    refine ⟨within, RejectionInputs.inside_iff.mpr (isE ▸ inside), fun l before holds => ?_⟩
    exact first l _ before (List.getElem?_eq_getElem (before.trans within)) (RejectionInputs.inside_iff.mp holds)
  simp only [RejectionInputs.policyAt, zoneLookup, found, at_m]

/-! ## The pen's rectangle (R117 to R119) -/

theorem inExclusion_iff (g : Geometry) (b : PanelRejection) (cx cy x y : Int) :
    inExclusion g b cx cy x y = true ↔
      max 0 (if b.handedness = .right then cx - b.back else cx - b.ahead) ≤ x ∧
      x ≤ min (if b.handedness = .right then cx + b.ahead else cx + b.back) (64 * g.senseLines - 1) ∧
      max 0 (cy - b.above) ≤ y ∧ y ≤ min (cy + b.below) (64 * g.driveLines - 1) := by
  cases hand : b.handedness with
  | right =>
    simp only [inExclusion, hand, Bool.and_eq_true, decide_eq_true_eq, and_assoc, if_true]
    exact Iff.rfl
  | left =>
    simp only [inExclusion, hand, Bool.and_eq_true, decide_eq_true_eq, and_assoc, reduceCtorEq, if_false]
    exact Iff.rfl

theorem RejectionInputs.penSuppresses_iff (x y : Int) :
    q.penSuppresses x y = true ↔ q.surface = .panel ∧ ∃ cx cy : Int, q.penCentre = some (cx, cy) ∧
      (q.panel.penMode = .all ∨ (q.panel.penMode = .area ∧ inExclusion q.geometry q.panel cx cy x y = true)) := by
  cases surface : q.surface with
  | pad => simp [RejectionInputs.penSuppresses, surface]
  | panel =>
    cases centre : q.penCentre with
    | none => simp [RejectionInputs.penSuppresses, surface, centre]
    | some c =>
      obtain ⟨cx, cy⟩ := c
      cases mode : q.panel.penMode with
      | off => simp [RejectionInputs.penSuppresses, surface, centre, mode]
      | area =>
        simp only [RejectionInputs.penSuppresses, surface, centre, mode, Option.some.injEq, Prod.mk.injEq, reduceCtorEq,
          false_or, true_and]
        constructor
        · exact fun inside => ⟨cx, cy, ⟨rfl, rfl⟩, inside⟩
        · rintro ⟨_, _, ⟨rfl, rfl⟩, inside⟩
          exact inside
      | all => simp [RejectionInputs.penSuppresses, surface, centre, mode]

theorem RejectionInputs.not_penSuppresses_on_pad (surface : q.surface = .pad) (x y : Int) :
    q.penSuppresses x y = false := by
  simp [RejectionInputs.penSuppresses, surface]

/-! ## Promotion (R110 to R112) -/

/-- What the promotion pass makes of a slot. -/
def RejectionInputs.promoted (q : RejectionInputs) (k : Slot) : Slot :=
  let suppressed := fun (w : Reason) => ({ k with state := .suppressed, reason := some w } : Slot)
  let admission := q.policyAt k.firstX k.firstY
  let travel := (k.firstX - k.x).natAbs + (k.firstY - k.y).natAbs
  if k.surface = q.surface ∧ k.state = .tentative ∧ q.confirmFrames ≤ k.age then
    if k.mark = true then suppressed .byClass
    else if q.postureMasked = true then suppressed .byPosture
    else if admission = .blockNew ∨ admission = .blockAll then suppressed .byZone
    else if q.surface = .pad ∧ q.guardRunning = true then suppressed .byTyping
    else if q.penSuppresses k.firstX k.firstY = true then suppressed .byPen
    else if q.surface = .pad ∧ admission = .hesitant ∧ travel < q.pad.hesitantTravel then
      if max q.confirmFrames q.pad.hesitantFrames ≤ k.age then suppressed .byZone else k
    else { k with state := .active }
  else k

/-- A slot by the outcome of its promotion checks (R96). -/
def Promotion.applied (k : Slot) : Promotion → Slot
  | .toActive => { k with state := .active }
  | .toSuppressed reason => { k with state := .suppressed, reason := some reason }
  | .retained => k

theorem RejectionInputs.promote_eq_applied (k : Slot) :
    q.promote k =
      if k.surface = q.surface ∧ k.state = .tentative ∧ q.confirmFrames ≤ k.age then (q.promotion k).applied k else k := by
  have due : (k.surface == q.surface && k.state == .tentative && decide (q.confirmFrames ≤ k.age)) = true ↔
      k.surface = q.surface ∧ k.state = .tentative ∧ q.confirmFrames ≤ k.age := by simp [and_assoc]
  exact (if_congr due rfl rfl).trans (by cases q.promotion k <;> rfl)

/-- A HESITANT admission zone holds a slot back on PAD alone (R111). -/
theorem RejectionInputs.hesitant_applied (k : Slot) :
    (q.hesitant k).applied k =
      if q.surface = .pad ∧ (k.firstX - k.x).natAbs + (k.firstY - k.y).natAbs < q.pad.hesitantTravel then
        if max q.confirmFrames q.pad.hesitantFrames ≤ k.age then { k with state := .suppressed, reason := some .byZone }
        else k
      else { k with state := .active } := by
  cases surface : q.surface with
  | panel => simp [RejectionInputs.hesitant, surface, Promotion.applied]
  | pad =>
    simp only [RejectionInputs.hesitant, surface, true_and]
    by_cases far : q.pad.hesitantTravel ≤ distance k.firstX k.firstY k.x k.y
    · have notNear : ¬ (k.firstX - k.x).natAbs + (k.firstY - k.y).natAbs < q.pad.hesitantTravel := Nat.not_lt.mpr far
      rw [if_pos far, if_neg notNear]
      rfl
    · have near : (k.firstX - k.x).natAbs + (k.firstY - k.y).natAbs < q.pad.hesitantTravel := Nat.lt_of_not_le far
      rw [if_neg far, if_pos near]
      exact apply_ite (Promotion.applied k) _ _ _

theorem RejectionInputs.promote_eq (k : Slot) : q.promote k = q.promoted k := by
  rw [RejectionInputs.promote_eq_applied, RejectionInputs.promoted]
  refine ite_congr rfl (fun _ => ?_) (fun _ => rfl)
  simp only [RejectionInputs.promotion, apply_ite (Promotion.applied k), RejectionInputs.hesitant_applied, beq_iff_eq,
    Bool.or_eq_true, Bool.and_eq_true]
  refine ite_congr rfl (fun _ => rfl) fun _ => ite_congr rfl (fun _ => rfl) fun _ => ite_congr rfl (fun _ => rfl) fun _ =>
    ite_congr rfl (fun _ => rfl) fun _ => ite_congr rfl (fun _ => rfl) fun _ => ?_
  by_cases hesitant : q.policyAt k.firstX k.firstY = .hesitant
  · simp only [hesitant, if_true, true_and]
  · simp only [hesitant, if_false, false_and, and_false]
    rfl

/-- Promotion writes a slot's state and reason alone. -/
theorem RejectionInputs.promoted_frame (k : Slot) :
    ∃ st w, q.promoted k = { k with state := st, reason := w } ∧ (st = .held ↔ k.state = .held) := by
  have suppressed : ∀ w, k.state = .tentative → ∃ st w', ({ k with state := .suppressed, reason := some w } : Slot) =
      { k with state := st, reason := w' } ∧ (st = .held ↔ k.state = .held) :=
    fun w tentative => ⟨_, _, rfl, by simp [tentative]⟩
  have same : ∃ st w, k = { k with state := st, reason := w } ∧ (st = .held ↔ k.state = .held) := ⟨_, _, rfl, Iff.rfl⟩
  unfold RejectionInputs.promoted
  dsimp only
  split
  case isFalse => exact same
  case isTrue due =>
    obtain ⟨-, tentative, -⟩ := due
    split
    · exact suppressed _ tentative
    split
    · exact suppressed _ tentative
    split
    · exact suppressed _ tentative
    split
    · exact suppressed _ tentative
    split
    · exact suppressed _ tentative
    split
    · split
      · exact suppressed _ tentative
      · exact same
    · exact ⟨.active, k.reason, rfl, by simp [tentative]⟩

/-! ## The per-frame checks (R113, R114) -/

/-- A slot suppressed after its promotion pass, with the closing that R97 sets. -/
def RejectionInputs.cancelled (q : RejectionInputs) (k : Slot) (w : Reason) : Slot :=
  { q.promoted k with
    state := .suppressed, reason := some w
    closing := if k.announced = true ∧ k.closed = false then
        some (k.closing.getD { kind := .cancel, x := k.x, y := k.y, touch := k.touch, area := k.area, peak := k.peak
                               held := k.state == .held })
      else k.closing }

/-- What the per-frame pass makes of a slot that the promotion pass has left. -/
def RejectionInputs.decided (q : RejectionInputs) (k : Slot) : Slot :=
  if k.surface = q.surface ∧ ((q.promoted k).state = .active ∨ (q.promoted k).state = .held) then
    if k.mark = true then q.cancelled k .byClass
    else if q.policyAt k.x k.y = .blockAll then q.cancelled k .byZone
    else if q.postureMasked = true then q.cancelled k .byPosture
    else if q.penSuppresses k.x k.y = true then q.cancelled k .byPen
    else q.promoted k
  else q.promoted k

/-- A suppression leaves a CANCEL in an announced slot that is not closed, unless it holds a closing (R97). -/
theorem Slot.suppress_eq (reason : Reason) (k : Slot) :
    k.suppress reason = { k with
      state := .suppressed, reason := some reason
      closing := if k.announced = true ∧ k.closed = false then some (k.closing.getD (k.snapshot .cancel))
        else k.closing } := by
  cases announced : k.announced with
  | false => simp [Slot.suppress, announced]
  | true => cases closed : k.closed <;> simp [Slot.suppress, Slot.setClosing, announced, closed]

/-- The snapshot shows the slot held as the frame found it: promotion makes no slot HELD. -/
theorem RejectionInputs.suppress_promoted (k : Slot) (w : Reason) :
    (q.promoted k).suppress w = q.cancelled k w := by
  obtain ⟨st, r, frame, held⟩ := q.promoted_frame k
  have sameHeld : (st == .held) = (k.state == .held) := by
    rw [Bool.eq_iff_iff, beq_iff_eq, beq_iff_eq, held]
  rw [Slot.suppress_eq, RejectionInputs.cancelled, frame]
  dsimp only [Slot.snapshot]
  rw [sameHeld]

theorem RejectionInputs.check_promoted (k : Slot) : q.check (q.promoted k) = q.decided k := by
  obtain ⟨st, r, frame, -⟩ := q.promoted_frame k
  have surface : (q.promoted k).surface = k.surface := by rw [frame]
  have mark : (q.promoted k).mark = k.mark := by rw [frame]
  have place : (q.promoted k).x = k.x ∧ (q.promoted k).y = k.y := by rw [frame]; exact ⟨rfl, rfl⟩
  have due : ((q.promoted k).surface == q.surface && ((q.promoted k).state == .active || (q.promoted k).state == .held)) =
      true ↔ k.surface = q.surface ∧ ((q.promoted k).state = .active ∨ (q.promoted k).state = .held) := by
    simp [surface]
  unfold RejectionInputs.check RejectionInputs.decided
  refine (if_congr due rfl rfl).trans (ite_congr rfl (fun _ => ?_) fun _ => rfl)
  simp only [RejectionInputs.perFrame, mark, place.left, place.right, beq_iff_eq]
  split_ifs
  · exact q.suppress_promoted k .byClass
  · exact q.suppress_promoted k .byZone
  · exact q.suppress_promoted k .byPosture
  · exact q.suppress_promoted k .byPen
  · rfl

/-- The stage decides each slot by itself (R108). -/
theorem RejectionInputs.stage_eq (slots : List Slot) : q.stage slots = slots.map q.decided := by
  rw [RejectionInputs.stage, List.map_map]
  refine List.map_congr_left fun k _ => ?_
  rw [Function.comp_apply, RejectionInputs.promote_eq, RejectionInputs.check_promoted]

/-- SUPPRESSED slots and the other surface's pass unchanged. -/
theorem RejectionInputs.decided_of_passed {k : Slot} (passed : k.state = .suppressed ∨ k.surface ≠ q.surface) :
    q.decided k = k := by
  have notPromoted : q.promoted k = k := by
    refine if_neg fun due => ?_
    obtain ⟨surface, tentative, -⟩ := due
    rcases passed with suppressed | other
    · exact nomatch suppressed.symm.trans tentative
    · exact other surface
  unfold RejectionInputs.decided
  rw [notPromoted]
  refine if_neg fun due => ?_
  obtain ⟨surface, tracked⟩ := due
  rcases passed with suppressed | other
  · rw [suppressed] at tracked
    exact tracked.elim nofun nofun
  · exact other surface

/-! ## The stage's inputs (R109, R118) -/

theorem penCentre_eq (pen : PenRecord) (linger : Option Linger) :
    penCentre pen linger =
      if pen.state = .outOfRange then linger.map (fun l => (l.x, l.y)) else some (pen.x, pen.y) := by
  by_cases out : pen.state = .outOfRange
  · simp [penCentre, out]
  · simp [penCentre, out]

theorem State.rejectionInputs_eq (i : SurfaceId) :
    s.rejectionInputs i =
      { surface := i, geometry := (s.surface i).geometry, zones := (s.surface i).zoneMap
        confirmFrames := (s.surface i).detection.confirmFrames, posture := s.posture
        postureMasked := !((s.surface i).reporting.mask.getLsbD (codeIn postureOrder s.posture))
        guardRunning := s.guard.isSome, pad := s.padRejection, panel := s.panelRejection
        penCentre := if s.pen.state = .outOfRange then s.linger.map (fun l => (l.x, l.y))
          else some (s.pen.x, s.pen.y) } := by
  rw [← penCentre_eq]
  rfl

/-- Settles O32: the stage is one map of two passes, each a chain of checks. -/
theorem rejectionStageDecidesEachSlot : Obligations.RejectionStageDecidesEachSlot := by
  refine ⟨fun q slots => ⟨?_, fun n k at_n passed => ?_, fun n k at_n => ?_⟩,
    fun q x y => ⟨fun outside => q.policyAt_of_outside outside, fun m e at_m inside first => ?_⟩, fun q x y => ?_,
    fun s i => State.rejectionInputs_eq i⟩
  · rw [RejectionInputs.stage_eq, List.length_map]
  · rw [RejectionInputs.stage_eq, List.getElem?_map, at_n, Option.map_some, RejectionInputs.decided_of_passed passed]
  · rw [RejectionInputs.stage_eq, List.getElem?_map, at_n]
    rfl
  · refine (q.policyAt_of_first at_m inside first).trans ?_
    cases q.posture <;> rfl
  · simp only [RejectionInputs.penSuppresses_iff, inExclusion_iff]

end Sys2Proof.Machine
end

section
/-! PROOFS. The gesture stage: its steps, its events and the click switch (R148, R149, R156, R157, R159). -/

namespace Sys2Proof.Machine

variable {q : StageInputs} {p : Group} {g : Gesture} {slots : List Slot} {r : StageResult}

/-! ## The first entry of a table -/

/-- The entry a table search takes: the first that has the property. -/
theorem find?_of_first {α : Type} {P : α → Bool} {xs : List α} {m : Nat} {x : α} (at_m : xs[m]? = some x)
    (holds : P x = true) (first : ∀ (l : Nat) (y : α), l < m → xs[l]? = some y → ¬ P y = true) :
    xs.find? P = some x := by
  obtain ⟨inside, isX⟩ := List.getElem?_eq_some_iff.mp at_m
  refine List.find?_eq_some_iff_getElem.mpr ⟨holds, m, inside, isX, fun l before => ?_⟩
  exact Bool.not_eq_true' _ ▸ Bool.eq_false_iff.mpr
    (first l _ before (List.getElem?_eq_getElem (before.trans inside)))

/-! ## The group (R149) -/

theorem groupOf_count_eq (slots : List Slot) : (groupOf slots).count = (slots.filter Slot.participates).length := by
  have firsts : (slots.zipIdx.filter (fun k => k.1.participates)).map Prod.fst = slots.filter Slot.participates := by
    conv_rhs => rw [← List.zipIdx_map_fst 0 slots, List.filter_map]
    rfl
  rw [← firsts, List.length_map]
  rfl

theorem Slot.participates_iff (k : Slot) :
    k.participates = true ↔ k.surface = .pad ∧ (k.state = .active ∨ k.state = .held) ∧
      (k.touch = .finger ∨ k.touch = .unknown) := by
  simp [Slot.participates, and_assoc]

/-- A clear PAD has no participant. -/
theorem groupOf_count_of_clear (clear : padClear slots = true) : (groupOf slots).count = 0 := by
  rw [groupOf_count_eq, List.length_eq_zero_iff, List.filter_eq_nil_iff]
  intro k inSlots participates
  obtain ⟨surface, active | held, -⟩ := k.participates_iff.mp participates
  · rcases padClear_iff.mp clear k inSlots surface with free | ending
    · exact nomatch active.symm.trans free
    · exact nomatch active.symm.trans ending
  · rcases padClear_iff.mp clear k inSlots surface with free | ending
    · exact nomatch held.symm.trans free
    · exact nomatch held.symm.trans ending

theorem memberSuppressed_iff {members : List (Nat × Nat)} :
    memberSuppressed members slots = true ↔
      ∃ m ∈ members, ∃ k : Slot, slots[m.1]? = some k ∧ k.contact = m.2 ∧ k.state = .suppressed := by
  simp only [memberSuppressed, List.any_eq_true]
  refine exists_congr fun m => and_congr_right fun _ => ?_
  cases slots[m.1]? with
  | none => simp
  | some k => simp

/-! ## The steps of a stage (R148) -/

/-- The last step: the members and switch seen. -/
def StageResult.finished (q : StageInputs) (p : Group) (r : StageResult) : StageResult :=
  { r with engine := { r.engine with members := p.members, switchSeen := q.switchClosed } }

theorem gestureStage_of_gestures (mode : q.reporting.mode ≠ .contacts) (g : Gesture) (slots : List Slot) :
    gestureStage q g slots = (gestureSteps q (groupOf slots) g slots).finished q (groupOf slots) :=
  if_pos (q.reporting.hasGestures_iff.mpr mode)

theorem gestureStage_of_contacts (mode : q.reporting.mode = .contacts) (g : Gesture) (slots : List Slot) :
    gestureStage q g slots = { engine := { g with switchSeen := q.switchClosed }, slots := slots, events := [] } :=
  if_neg (fun gestures => q.reporting.hasGestures_iff.mp gestures mode)

theorem gestureSteps_of_cause (cause : memberSuppressed g.members slots = true ∨ q.masked = true) :
    gestureSteps q p g slots = { engine := g.block, slots := slots, events := g.cancelEvents } :=
  if_pos ((Bool.or_eq_true _ _).mpr cause)

theorem gestureSteps_of_blocked (uncaused : ¬ (memberSuppressed g.members slots = true ∨ q.masked = true))
    (blocked : g.state = .blocked) (unclear : padClear slots = false) :
    gestureSteps q p g slots = { engine := g, slots := slots, events := [] } := by
  rw [← Bool.or_eq_true] at uncaused
  simp [gestureSteps, uncaused, blocked, unclear]

/-- The engine with which a stage goes on from its tests: a BLOCKED one has returned to IDLE. -/
def Gesture.woken (g : Gesture) : Gesture := if g.state = .blocked then g.unblock else g

/-- The stage stops at its cancellation or return test (R148, R157). -/
def Stopped (q : StageInputs) (g : Gesture) (slots : List Slot) : Prop :=
  memberSuppressed g.members slots = true ∨ q.masked = true ∨ (g.state = .blocked ∧ padClear slots = false)

theorem gestureSteps_of_running (running : ¬ Stopped q g slots) :
    gestureSteps q p g slots = decidePress q p (advance q p { engine := g.woken, slots := slots, events := [] }) := by
  simp only [Stopped, not_or, not_and, Bool.not_eq_true, Bool.not_eq_false] at running
  obtain ⟨present, unmasked, clears⟩ := running
  by_cases blocked : g.state = .blocked
  · simp [gestureSteps, present, unmasked, blocked, clears blocked, Gesture.woken]
  · simp [gestureSteps, present, unmasked, blocked, Gesture.woken]

theorem Gesture.woken_switchSeen : g.woken.switchSeen = g.switchSeen := by
  unfold Gesture.woken
  split <;> rfl

theorem Gesture.woken_pendingEnd : g.woken.pendingEnd = g.pendingEnd := by
  unfold Gesture.woken
  split <;> rfl

/-! ## The switch and the state machine (R156) -/

@[simp] theorem Gesture.anchored_switchSeen : (g.anchored q p).switchSeen = g.switchSeen := by
  unfold Gesture.anchored
  split <;> rfl

@[simp] theorem Gesture.settle_switchSeen : (g.settle q p).switchSeen = g.switchSeen := by
  unfold Gesture.settle
  split
  · rfl
  · exact Gesture.anchored_switchSeen

theorem gatheringStage_switchSeen : (gatheringStage q p r).engine.switchSeen = r.engine.switchSeen := by
  unfold gatheringStage
  split
  · rfl
  split
  · unfold commitTest
    split <;> rfl
  · rfl

theorem advance_switchSeen : (advance q p r).engine.switchSeen = r.engine.switchSeen := by
  simp only [advance]
  split
  · split
    · rfl
    · exact gatheringStage_switchSeen.trans Gesture.anchored_switchSeen
  · exact gatheringStage_switchSeen.trans Gesture.settle_switchSeen
  · simp only [committedStage]
    split
    · exact Gesture.anchored_switchSeen
    split
    · split
      · exact Gesture.settle_switchSeen
      · rfl
    · exact Gesture.anchored_switchSeen
  · rfl

/-- The state machine does not read the switch. -/
theorem advance_of_switch (b : Bool) : advance { q with switchClosed := b } p r = advance q p r := rfl

theorem decidePress_of_unchanged (same : q.switchClosed = r.engine.switchSeen) : decidePress q p r = r := by
  unfold decidePress
  rw [same]
  cases r.engine.switchSeen <;> rfl

theorem decidePress_of_pressed (closed : q.switchClosed = true) (seen : r.engine.switchSeen = false) :
    decidePress q p r =
      { r with
        engine := { r.engine with tapEligible := false }
        events := r.events ++ [.pressed (pressCode q.table p.count) p.count] } := by
  simp [decidePress, closed, seen]

theorem decidePress_of_released (opened : q.switchClosed = false) (seen : r.engine.switchSeen = true) :
    decidePress q p r = { r with events := r.events ++ [.released p.count] } := by
  simp [decidePress, opened, seen]

theorem pressCode_of_none {table : List GestureEntry} {n : Nat}
    (absent : ∀ e ∈ table, ¬ (e.used = true ∧ e.kind = .press ∧ e.fingers = n)) : pressCode table n = 0 := by
  have notFound : table.find? (fun e => e.used && e.kind == .press && e.fingers == n) = none := by
    rw [List.find?_eq_none]
    exact fun e inTable holds => absent e inTable (by simpa [and_assoc] using holds)
  simp only [pressCode, notFound]

theorem pressCode_of_first {table : List GestureEntry} {n m : Nat} {e : GestureEntry} (at_m : table[m]? = some e)
    (presses : e.used = true ∧ e.kind = .press ∧ e.fingers = n)
    (first : ∀ (l : Nat) (d : GestureEntry), l < m → table[l]? = some d →
      ¬ (d.used = true ∧ d.kind = .press ∧ d.fingers = n)) : pressCode table n = e.code := by
  have found : table.find? (fun e => e.used && e.kind == .press && e.fingers == n) = some e := by
    refine find?_of_first at_m (by simpa [and_assoc] using presses) fun l d before at_l holds => ?_
    exact first l d before at_l (by simpa [and_assoc] using holds)
  simp only [pressCode, found]

/-- The event of the switch. -/
def switchEvents (q : StageInputs) (p : Group) (seen : Bool) : List GestureEvent :=
  if q.switchClosed && !seen then [.pressed (pressCode q.table p.count) p.count]
  else if !q.switchClosed && seen then [.released p.count]
  else []

theorem decidePress_events : (decidePress q p r).events = r.events ++ switchEvents q p r.engine.switchSeen := by
  unfold decidePress switchEvents
  split
  · rfl
  split
  · rfl
  · exact (List.append_nil _).symm

theorem switchEvents_cases (seen : Bool) :
    switchEvents q p seen = [] ∨ ∃ e, switchEvents q p seen = [e] ∧ e.rank = 4 := by
  unfold switchEvents
  split
  · exact .inr ⟨_, rfl, rfl⟩
  split
  · exact .inr ⟨_, rfl, rfl⟩
  · exact .inl rfl

/-! ## The events of a stage (R159) -/

/-- What the state machine emits: nothing, or one event other than PRESS and RELEASE, and BEGIN with no END pending. -/
def EmitsOne (pending : Option PendingEnd) (events : List GestureEvent) : Prop :=
  events = [] ∨ ∃ e, events = [e] ∧ e.rank < 4 ∧ (e.rank = 2 → pending = none)

theorem emitsOne_single {pending : Option PendingEnd} {e : GestureEvent} (rank : e.rank < 4) (notBegin : e.rank ≠ 2) :
    EmitsOne pending [e] :=
  .inr ⟨e, rfl, rank, fun begins => absurd begins notBegin⟩

theorem commitWith_events (a : GestureEntry) : ∃ b, (commitWith q p a r).events = r.events ++ [.began b] := ⟨_, rfl⟩

theorem gatheringStage_emits (silent : r.events = []) :
    EmitsOne r.engine.pendingEnd (gatheringStage q p r).events := by
  unfold gatheringStage
  split
  · simp only [tapDecision, silent, List.nil_append]
    split
    · split
      · exact emitsOne_single (by decide : (1 : Nat) < 4) (by simp [GestureEvent.rank])
      · exact .inl rfl
    · exact .inl rfl
  split
  next commits =>
    obtain ⟨-, noPending⟩ := (Bool.and_eq_true _ _).mp commits
    unfold commitTest
    split
    next e _ =>
      obtain ⟨b, events⟩ := commitWith_events (q := q) (p := p) (r := r) e
      rw [events, silent, List.nil_append]
      exact .inr ⟨_, rfl, (by decide : (2 : Nat) < 4), fun _ => Option.isNone_iff_eq_none.mp noPending⟩
    next => exact .inl silent
  next => exact .inl silent

theorem advance_emits (silent : r.events = []) : EmitsOne r.engine.pendingEnd (advance q p r).events := by
  simp only [advance]
  split
  · split
    · exact .inl silent
    · have emits := gatheringStage_emits (q := q) (p := p) (r := { r with engine := r.engine.beginEpisode q p }) silent
      rwa [show (r.engine.beginEpisode q p).pendingEnd = r.engine.pendingEnd from Gesture.anchored_pendingEnd] at emits
  · have emits := gatheringStage_emits (q := q) (p := p) (r := { r with engine := (r.engine.settle q p).raised p }) silent
    rwa [Gesture.raised_pendingEnd, Gesture.settle_pendingEnd] at emits
  · simp only [committedStage, silent, List.nil_append]
    split
    · exact emitsOne_single (by decide : (0 : Nat) < 4) (by simp [GestureEvent.rank])
    split
    · split
      · exact emitsOne_single (by decide : (3 : Nat) < 4) (by simp [GestureEvent.rank])
      · exact .inl silent
    · exact emitsOne_single (by decide : (0 : Nat) < 4) (by simp [GestureEvent.rank])
  · exact .inl silent

theorem cancelEvents_emits (pending : Option PendingEnd) : EmitsOne pending g.cancelEvents := by
  unfold Gesture.cancelEvents
  split
  · exact emitsOne_single (by decide : (0 : Nat) < 4) (by simp [GestureEvent.rank])
  · exact .inl rfl

/-- The events of a stage: at most one of the state machine, then at most one of the switch. -/
theorem gestureSteps_emits (g : Gesture) (slots : List Slot) :
    ∃ own switched, (gestureSteps q p g slots).events = own ++ switched ∧ EmitsOne g.pendingEnd own ∧
      (switched = [] ∨ ∃ e, switched = [e] ∧ e.rank = 4) := by
  by_cases cause : memberSuppressed g.members slots = true ∨ q.masked = true
  · rw [gestureSteps_of_cause cause]
    exact ⟨_, [], (List.append_nil _).symm, cancelEvents_emits _, .inl rfl⟩
  by_cases waits : g.state = .blocked ∧ padClear slots = false
  · obtain ⟨blocked, unclear⟩ := waits
    rw [gestureSteps_of_blocked cause blocked unclear]
    exact ⟨[], [], rfl, .inl rfl, .inl rfl⟩
  · have running : ¬ Stopped q g slots := by
      rintro (suppressed | masked | stays)
      · exact cause (.inl suppressed)
      · exact cause (.inr masked)
      · exact waits stays
    rw [gestureSteps_of_running running]
    have emits := advance_emits (q := q) (p := p) (r := { engine := g.woken, slots := slots, events := [] }) rfl
    rw [Gesture.woken_pendingEnd] at emits
    exact ⟨_, _, decidePress_events, emits, switchEvents_cases _⟩

/-! ## The click switch (R156) -/

theorem Slot.candidate_some_iff : (∃ k ∈ slots, k.candidate .pad = true) ↔ padClear slots = false := by
  simp [padClear]

/-- With an unchanged switch a stage that goes on is the state machine alone. -/
theorem gestureStage_of_unchanged (mode : q.reporting.mode ≠ .contacts) (running : ¬ Stopped q g slots)
    (same : q.switchClosed = g.switchSeen) :
    gestureStage q g slots =
      (advance q (groupOf slots) { engine := g.woken, slots := slots, events := [] }).finished q (groupOf slots) := by
  rw [gestureStage_of_gestures mode, gestureSteps_of_running running, decidePress_of_unchanged]
  rw [same, advance_switchSeen]
  exact Gesture.woken_switchSeen.symm

/-- A stage that stops does not read the switch before its last step. -/
theorem gestureSteps_of_stopped (stopped : Stopped q g slots) (b : Bool) :
    gestureSteps { q with switchClosed := b } p g slots = gestureSteps q p g slots := by
  by_cases cause : memberSuppressed g.members slots = true ∨ q.masked = true
  · rw [gestureSteps_of_cause cause, gestureSteps_of_cause (q := { q with switchClosed := b }) cause]
  · obtain ⟨blocked, unclear⟩ : g.state = .blocked ∧ padClear slots = false := by
      rcases stopped with suppressed | masked | stays
      · exact absurd (.inl suppressed) cause
      · exact absurd (.inr masked) cause
      · exact stays
    rw [gestureSteps_of_blocked cause blocked unclear,
      gestureSteps_of_blocked (q := { q with switchClosed := b }) cause blocked unclear]

theorem gestureSteps_stopped_events (stopped : Stopped q g slots) :
    ∀ e ∈ (gestureSteps q p g slots).events, e.rank ≠ 4 := by
  by_cases cause : memberSuppressed g.members slots = true ∨ q.masked = true
  · rw [gestureSteps_of_cause cause]
    exact (cancelEvents_emits none).elim (fun silent e inEvents => absurd (silent ▸ inEvents) List.not_mem_nil)
      fun ⟨x, only, rank, _⟩ e inEvents => List.mem_singleton.mp (only ▸ inEvents) ▸ rank.ne
  · obtain ⟨blocked, unclear⟩ : g.state = .blocked ∧ padClear slots = false := by
      rcases stopped with suppressed | masked | stays
      · exact absurd (.inl suppressed) cause
      · exact absurd (.inr masked) cause
      · exact stays
    rw [gestureSteps_of_blocked cause blocked unclear]
    exact fun e inEvents => absurd inEvents List.not_mem_nil

/-- Settles O35: the stage with an unchanged switch is the state machine, and a change adds one event to it. -/
theorem clickSwitchGivesPressAndRelease : Obligations.ClickSwitchGivesPressAndRelease := by
  intro q g slots mode n calm stopped presses
  have count : n = (groupOf slots).count := (groupOf_count_eq slots).symm
  have stoppedIff : stopped ↔ Stopped q g slots := by
    simp only [stopped, Stopped, Slot.candidate_some_iff]
  let own := advance q (groupOf slots) { engine := g.woken, slots := slots, events := [] }
  have seen : own.engine.switchSeen = g.switchSeen := advance_switchSeen.trans Gesture.woken_switchSeen
  have calmRuns : ¬ Stopped q g slots →
      calm = own.finished { q with switchClosed := g.switchSeen } (groupOf slots) := fun running =>
    gestureStage_of_unchanged (q := { q with switchClosed := g.switchSeen }) mode running rfl
  have calmStops : Stopped q g slots → calm =
      (gestureSteps q (groupOf slots) g slots).finished { q with switchClosed := g.switchSeen } (groupOf slots) := by
    intro stops
    rw [← gestureSteps_of_stopped stops g.switchSeen]
    exact gestureStage_of_gestures (q := { q with switchClosed := g.switchSeen }) mode g slots
  have runs : ¬ Stopped q g slots →
      gestureStage q g slots = (decidePress q (groupOf slots) own).finished q (groupOf slots) := fun running => by
    rw [gestureStage_of_gestures mode, gestureSteps_of_running running]
  refine ⟨?quiet, ?same, fun running closed opened => ?press, fun running opened closed => ?release⟩
  case quiet =>
    by_cases stops : Stopped q g slots
    · rw [calmStops stops]
      exact gestureSteps_stopped_events stops
    · rw [calmRuns stops]
      exact (advance_emits rfl).elim (fun silent e inEvents => absurd (silent ▸ inEvents) List.not_mem_nil)
        fun ⟨x, only, rank, _⟩ e inEvents => List.mem_singleton.mp (only ▸ inEvents) ▸ rank.ne
  case same =>
    by_cases stops : Stopped q g slots
    · intro _
      rw [calmStops stops, gestureStage_of_gestures mode]
      rfl
    · rintro (stopped | same)
      · exact absurd (stoppedIff.mp stopped) stops
      · rw [calmRuns stops, runs stops, decidePress_of_unchanged (same.trans seen.symm)]
        rfl
  case press =>
    have running := running ∘ stoppedIff.mpr
    refine ⟨pressCode q.table n, ?_, fun absent => pressCode_of_none absent, fun m e at_m isPress first =>
      pressCode_of_first at_m isPress first⟩
    rw [calmRuns running, runs running, decidePress_of_pressed closed (seen.trans opened), count, ← closed]
    rfl
  case release =>
    have running := running ∘ stoppedIff.mpr
    rw [calmRuns running, runs running, decidePress_of_released opened (seen.trans closed), count, ← opened]
    rfl

end Sys2Proof.Machine
end

section
/-! PROOFS. The gesture stage's outcomes: gathering, the commit, taps and the committed gesture (R148 to R155, R157). -/

namespace Sys2Proof.Machine

variable {q : StageInputs} {p : Group} {g e : Gesture} {slots : List Slot} {r : StageResult}

/-! ## The events of a stage (R148, R159) -/

theorem gestureStage_emits (g : Gesture) (slots : List Slot) :
    ∃ own switched, (gestureStage q g slots).events = own ++ switched ∧ EmitsOne g.pendingEnd own ∧
      (switched = [] ∨ ∃ e, switched = [e] ∧ e.rank = 4) := by
  by_cases mode : q.reporting.mode = .contacts
  · rw [gestureStage_of_contacts mode]
    exact ⟨[], [], rfl, .inl rfl, .inl rfl⟩
  · rw [gestureStage_of_gestures mode]
    exact gestureSteps_emits g slots

/-- One event of the state machine and one of the switch: at most one of each rank, and BEGIN without END. -/
theorem ranks_of_emits {pending : Option PendingEnd} {own switched : List GestureEvent} (emits : EmitsOne pending own)
    (press : switched = [] ∨ ∃ e, switched = [e] ∧ e.rank = 4) :
    (∀ n, ((own ++ switched).countP (fun e => e.rank == n)) ≤ 1) ∧
    ¬ ((∃ e ∈ own ++ switched, e.rank = 0) ∧ (∃ e ∈ own ++ switched, e.rank = 2)) ∧
    (pending ≠ none → ∀ e ∈ own ++ switched, e.rank ≠ 2) := by
  rcases emits with rfl | ⟨x, rfl, below, noPending⟩
  · rcases press with rfl | ⟨y, rfl, rank⟩
    · exact ⟨fun n => Nat.zero_le 1, by simp, by simp⟩
    · refine ⟨fun n => List.countP_le_length, ?_, ?_⟩
      · simp [rank]
      · simp [rank]
  · rcases press with rfl | ⟨y, rfl, rank⟩
    · refine ⟨fun n => List.countP_le_length, ?_, ?_⟩
      · simp only [List.append_nil, List.mem_singleton, exists_eq_left]
        rintro ⟨ended, began⟩
        exact nomatch ended.symm.trans began
      · simp only [List.append_nil, List.mem_singleton, forall_eq]
        exact fun pends begins => pends (noPending begins)
    · refine ⟨fun n => ?_, ?_, ?_⟩
      · by_cases isOwn : x.rank = n
        · have notBoth : y.rank ≠ n := by omega
          simp [isOwn, notBoth]
        · simp only [List.singleton_append, List.countP_cons, List.countP_nil, beq_iff_eq, isOwn, if_false, Nat.zero_add]
          split <;> omega
      · simp only [List.singleton_append, List.mem_cons, List.not_mem_nil, or_false, exists_eq_or_imp, exists_eq_left,
          rank]
        rintro ⟨ended | impossible, began | impossible'⟩
        · exact nomatch ended.symm.trans began
        · exact nomatch impossible'
        · exact nomatch impossible
        · exact nomatch impossible
      · simp only [List.singleton_append, List.mem_cons, List.not_mem_nil, or_false, forall_eq_or_imp, forall_eq, rank]
        exact fun pends => ⟨fun begins => pends (noPending begins), by decide⟩

/-! ## Group features (R149) -/

/-- The participants with their indices. -/
def partsOf (slots : List Slot) : List (Slot × Nat) := (slots.zipIdx).filter (fun k => k.1.participates)

/-- A participant's travel from its first-seen position. -/
def ownTravel (k : Slot × Nat) : Nat := (k.1.firstX - k.1.x).natAbs + (k.1.firstY - k.1.y).natAbs

theorem groupOf_farthest_eq (slots : List Slot) :
    (groupOf slots).farthest = (partsOf slots).foldl (fun m k => max m (ownTravel k)) 0 := rfl

theorem groupOf_farthest_bounds (slots : List Slot) :
    (1 ≤ (groupOf slots).count → ∃ k ∈ partsOf slots, (groupOf slots).farthest = ownTravel k) ∧
      ∀ k ∈ partsOf slots, ownTravel k ≤ (groupOf slots).farthest := by
  rw [groupOf_farthest_eq]
  obtain ⟨-, bounds, attained⟩ := foldl_max_bounds ownTravel (partsOf slots) 0
  refine ⟨fun nonempty => ?_, bounds⟩
  rcases attained with isZero | ⟨k, inParts, isTop⟩
  · obtain ⟨k, inParts⟩ := List.exists_mem_of_length_pos (l := partsOf slots) nonempty
    have below := bounds k inParts
    exact ⟨k, inParts, by omega⟩
  · exact ⟨k, inParts, isTop.symm⟩

theorem groupOf_features (slots : List Slot) :
    let p := groupOf slots
    let parts := partsOf slots
    p.members = parts.map (fun k => (k.2, k.1.contact)) ∧ p.count = parts.length ∧
    (1 ≤ p.count →
      p.x = (2 * (parts.map (fun k => k.1.x)).sum + p.count) / (2 * p.count) ∧
      p.y = (2 * (parts.map (fun k => k.1.y)).sum + p.count) / (2 * p.count) ∧
      p.spread = (parts.map (fun k => (((k.1.x - p.x).natAbs + (k.1.y - p.y).natAbs : Nat) : Int))).sum / p.count ∧
      (∃ k ∈ parts, p.farthest = ownTravel k)) ∧
    (∀ k ∈ parts, ownTravel k ≤ p.farthest) := by
  intro p parts
  obtain ⟨attained, bounds⟩ := groupOf_farthest_bounds slots
  refine ⟨rfl, rfl, fun nonempty => ⟨?_, ?_, ?_, attained nonempty⟩, bounds⟩
  · exact congrArg (fun sum => (2 * sum + (p.count : Int)) / (2 * p.count)) (total_eq_sum _)
  · exact congrArg (fun sum => (2 * sum + (p.count : Int)) / (2 * p.count)) (total_eq_sum _)
  · exact congrArg (fun sum => sum / (p.count : Int)) (total_eq_sum _)

theorem groupOf_farthest_of_empty (empty : (groupOf slots).count = 0) : (groupOf slots).farthest = 0 := by
  have noParts : partsOf slots = [] := List.length_eq_zero_iff.mp empty
  rw [groupOf_farthest_eq, noParts]
  rfl

/-! ## Anchor and episode (R150, R151) -/

theorem Gesture.anchored_of_some (some_fingers : p.count ≠ 0) :
    g.anchored q p = { g with
      anchorX := p.x, anchorY := p.y, anchorSpread := p.spread, anchorTime := q.now, hold := 1 } :=
  if_neg some_fingers

/-- The anchor's position and spread are the stage's own, its time and hold count are given. -/
theorem Gesture.anchored_eq (q : StageInputs) (p : Group) (g : Gesture) : ∃ x y spread,
    g.anchored q p = { g with
      anchorX := x, anchorY := y, anchorSpread := spread, anchorTime := q.now, hold := 1 } := by
  unfold Gesture.anchored
  split
  · exact ⟨_, _, _, rfl⟩
  · exact ⟨_, _, _, rfl⟩

theorem Gesture.settle_of_same (same : p.count = g.members.length) :
    g.settle q p = { g with hold := min 255 (g.hold + 1) } := if_pos same

theorem Gesture.settle_of_changed (changed : p.count ≠ g.members.length) : g.settle q p = g.anchored q p :=
  if_neg changed

theorem Gesture.raised_of_empty (empty : p.count = 0) (still : p.farthest = 0) : g.raised p = g := by
  simp [Gesture.raised, empty, still]

/-! ## The commit test (R152, R153) -/

/-- The dominant direction of the group's movement from the anchor. -/
def directionFrom (p : Group) (e : Gesture) : Direction :=
  if (p.y - e.anchorY).natAbs ≤ (p.x - e.anchorX).natAbs then (if 0 ≤ p.x - e.anchorX then .right else .left)
  else (if 0 < p.y - e.anchorY then .down else .up)

/-- An entry whose conditions hold (R152). -/
def CommitsOn (q : StageInputs) (p : Group) (e : Gesture) (a : GestureEntry) : Prop :=
  let travel := (p.x - e.anchorX).natAbs + (p.y - e.anchorY).natAbs
  let change := p.spread - e.anchorSpread
  a.used = true ∧ a.fingers = p.count ∧ (a.maxTime = 0 ∨ (q.now - e.anchorTime).toNat ≤ a.maxTime) ∧
    ((a.kind = .drag ∧ a.threshold ≤ travel ∧ change.natAbs ≤ a.limit ∧
        (a.direction = .any ∨ a.direction = directionFrom p e)) ∨
      (a.kind = .pinch ∧ a.threshold ≤ change.natAbs ∧ travel ≤ a.limit ∧
        (a.direction = .either ∨ (a.direction = .inward ∧ change < 0) ∨ (a.direction = .outward ∧ 0 < change))))

theorem movement_travel : (e.movement q p).travel = (p.x - e.anchorX).natAbs + (p.y - e.anchorY).natAbs := by
  change (e.anchorX - p.x).natAbs + (e.anchorY - p.y).natAbs = _
  omega

theorem movement_dominant : dominant (e.movement q p).dx (e.movement q p).dy = directionFrom p e := rfl

theorem commits_iff {a : GestureEntry} : a.commits (e.movement q p) p.count = true ↔ CommitsOn q p e a := by
  have change : (e.movement q p).spreadChange = p.spread - e.anchorSpread := rfl
  have elapsed : (e.movement q p).elapsed = (q.now - e.anchorTime).toNat := rfl
  cases kind : a.kind with
  | drag =>
    simp [GestureEntry.commits, CommitsOn, kind, movement_travel, movement_dominant, change, elapsed, and_assoc,
      eq_comm (a := directionFrom p e)]
  | pinch =>
    simp [GestureEntry.commits, CommitsOn, kind, movement_travel, change, elapsed, and_assoc, or_assoc]
  | tap => simp [GestureEntry.commits, CommitsOn, kind]
  | press => simp [GestureEntry.commits, CommitsOn, kind]

theorem commitTest_of_none (none_commits : ∀ a ∈ q.table, ¬ CommitsOn q p r.engine a) : commitTest q p r = r := by
  have notFound : q.table.find? (GestureEntry.commits (r.engine.movement q p) p.count) = none :=
    List.find?_eq_none.mpr fun a inTable commits => none_commits a inTable (commits_iff.mp commits)
  simp only [commitTest, notFound]

theorem commitTest_of_first {m : Nat} {a : GestureEntry} (at_m : q.table[m]? = some a)
    (commits : CommitsOn q p r.engine a)
    (first : ∀ (l : Nat) (b : GestureEntry), l < m → q.table[l]? = some b → ¬ CommitsOn q p r.engine b) :
    commitTest q p r = commitWith q p a r := by
  have found : q.table.find? (GestureEntry.commits (r.engine.movement q p) p.count) = some a :=
    find?_of_first at_m (commits_iff.mpr commits) fun l b before at_l holds =>
      first l b before at_l (commits_iff.mp holds)
  simp only [commitTest, found]

/-- A slot as a capture leaves it (R98, R153). -/
def Slot.captured (k : Slot) : Slot :=
  if k.participates = true ∧ k.closed = false then
    if k.announced = true then { k with
      closing := some (k.closing.getD { kind := .cancel, x := k.x, y := k.y, touch := k.touch, area := k.area
                                        peak := k.peak, held := k.state == .held }) }
    else { k with closed := true }
  else k

theorem Slot.captured_eq (k : Slot) : (if k.participates then k.closeOnRequest else k) = k.captured := by
  unfold Slot.captured
  cases participates : k.participates with
  | false => simp
  | true =>
    cases closed : k.closed with
    | true => simp [Slot.closeOnRequest, closed]
    | false =>
      cases announced : k.announced with
      | true => simp [Slot.closeOnRequest, closed, announced, Slot.setClosing, Slot.snapshot]
      | false => simp [Slot.closeOnRequest, closed, announced]

/-- What a commit leaves and emits (R153). -/
theorem commitWith_eq {a : GestureEntry} {x y : Int} (place : logical q.reporting q.geometry p.x p.y = (x, y)) :
    let number := if e.number % 256 = 255 then 0 else e.number % 256 + 1
    commitWith q p a { engine := e, slots := slots, events := [] } =
      { engine := { e with
          state := .committed, number := number, tapEligible := false
          committed := some { kind := a.kind, code := a.code, x := p.x, y := p.y, spread := p.spread } }
        slots := if a.capture = false then slots else slots.map Slot.captured
        events := [.began {
          number := number, kind := a.kind, code := a.code, fingers := p.count
          direction := if a.kind = .drag then directionFrom p e
            else if p.spread - e.anchorSpread < 0 then .inward else .outward
          x := x, y := y, merged := 1 }] } := by
  intro number
  have next : (e.number + 1) % 256 = number := by
    simp only [number]
    split <;> omega
  have direction : beginDirection a.kind (e.movement q p) = if a.kind = .drag then directionFrom p e
      else if p.spread - e.anchorSpread < 0 then .inward else .outward := if_congr beq_iff_eq rfl rfl
  have capture : (if a.capture then slots.map (fun k => if k.participates then k.closeOnRequest else k) else slots) =
      if a.capture = false then slots else slots.map Slot.captured := by
    rw [List.map_congr_left fun k _ => Slot.captured_eq k]
    cases a.capture <;> rfl
  simp only [commitWith, place, next, direction, capture, List.nil_append]

/-- What a GATHERING stage with participants may do: nothing, or the first commit (R151, R152). -/
def Gathers (q : StageInputs) (g : Gesture) (slots : List Slot) (r : StageResult) (x y : Int) (e : Gesture) : Prop :=
  let p := groupOf slots
  let number := if g.number % 256 = 255 then 0 else g.number % 256 + 1
  ((e.hold < q.reporting.settleFrames ∨ g.pendingEnd ≠ none ∨ ∀ a ∈ q.table, ¬ CommitsOn q p e a) →
    r = ({ engine := e, slots := slots, events := [] } : StageResult).finished q p) ∧
  (q.reporting.settleFrames ≤ e.hold → g.pendingEnd = none →
    ∀ (m : Nat) (a : GestureEntry), q.table[m]? = some a → CommitsOn q p e a →
      (∀ (l : Nat) (b : GestureEntry), l < m → q.table[l]? = some b → ¬ CommitsOn q p e b) →
      r = ({ engine := { e with
               state := .committed, number := number, tapEligible := false
               committed := some { kind := a.kind, code := a.code, x := p.x, y := p.y, spread := p.spread } }
             slots := if a.capture = false then slots else slots.map Slot.captured
             events := [.began {
               number := number, kind := a.kind, code := a.code, fingers := p.count
               direction := if a.kind = .drag then directionFrom p e
                 else if p.spread - e.anchorSpread < 0 then .inward else .outward
               x := x, y := y, merged := 1 }] } : StageResult).finished q p)

theorem gathers_of_gatheringStage {x y : Int} (some_fingers : (groupOf slots).count ≠ 0)
    (place : logical q.reporting q.geometry (groupOf slots).x (groupOf slots).y = (x, y))
    (number : e.number = g.number) (pending : e.pendingEnd = g.pendingEnd)
    (stage : r = (gatheringStage q (groupOf slots) { engine := e, slots := slots, events := [] }).finished q
      (groupOf slots)) : Gathers q g slots r x y e := by
  have entered : gatheringStage q (groupOf slots) { engine := e, slots := slots, events := [] } =
      if q.reporting.settleFrames ≤ e.hold && e.pendingEnd.isNone then
        commitTest q (groupOf slots) { engine := e, slots := slots, events := [] }
      else { engine := e, slots := slots, events := [] } := if_neg some_fingers
  refine ⟨fun waits => ?_, fun settled noPending m a at_m commits first => ?_⟩
  · rw [stage, entered]
    split
    next due =>
      obtain ⟨settled, noPending⟩ := (Bool.and_eq_true _ _).mp due
      rcases waits with early | pends | none_commits
      · exact absurd early (Nat.not_lt.mpr (of_decide_eq_true settled))
      · exact absurd (pending.symm.trans (Option.isNone_iff_eq_none.mp noPending)) pends
      · rw [commitTest_of_none none_commits]
    next => rfl
  · rw [stage, entered, if_pos (by simp [settled, pending, noPending]), commitTest_of_first at_m commits first,
      commitWith_eq place, number]

/-! ## Taps (R155) -/

/-- A TAP entry whose conditions hold. -/
def TapsOn (q : StageInputs) (e : Gesture) (a : GestureEntry) : Prop :=
  a.used = true ∧ a.kind = .tap ∧ a.fingers = e.greatest ∧ e.fingerTravel ≤ a.threshold ∧
    (a.maxTime = 0 ∨ (q.now - e.episodeStart).toNat ≤ a.maxTime)

theorem tapsOn_iff {a : GestureEntry} :
    (a.used && a.kind == .tap && a.fingers == e.greatest && decide (e.fingerTravel ≤ a.threshold)
      && (a.maxTime == 0 || decide ((q.now - e.episodeStart).toNat ≤ a.maxTime))) = true ↔ TapsOn q e a := by
  simp only [TapsOn, Bool.and_eq_true, Bool.or_eq_true, beq_iff_eq, decide_eq_true_eq, and_assoc]

theorem tapDecision_of_none (none_taps : e.tapEligible = false ∨ ∀ a ∈ q.table, ¬ TapsOn q e a) :
    tapDecision q { engine := e, slots := slots, events := [] } =
      { engine := { e with state := .idle }, slots := slots, events := [] } := by
  rcases none_taps with ineligible | none_taps
  · simp [tapDecision, ineligible]
  · have notFound : tapEntry q e = none :=
      List.find?_eq_none.mpr fun a inTable taps => none_taps a inTable (tapsOn_iff.mp taps)
    simp [tapDecision, notFound]

theorem tapDecision_of_first {m : Nat} {a : GestureEntry} (eligible : e.tapEligible = true) (at_m : q.table[m]? = some a)
    (taps : TapsOn q e a) (first : ∀ (l : Nat) (b : GestureEntry), l < m → q.table[l]? = some b → ¬ TapsOn q e b) :
    tapDecision q { engine := e, slots := slots, events := [] } =
      { engine := { e with state := .idle }, slots := slots
        events := [.tapped a.code e.greatest (min 65535 (q.now - e.episodeStart).toNat)] } := by
  have found : tapEntry q e = some a := by
    exact find?_of_first at_m (tapsOn_iff.mpr taps) fun l b before at_l holds =>
      first l b before at_l (tapsOn_iff.mp holds)
  simp [tapDecision, eligible, found]

/-! ## The update (R154) -/

theorem updateOf_eq {number : Nat} {c : Committed} {x y rx ry : Int}
    (place : logical q.reporting q.geometry p.x p.y = (x, y))
    (reference : logical q.reporting q.geometry c.x c.y = (rx, ry)) :
    let extent : Int := 64 * (if q.reporting.swap = true then q.geometry.driveLines else q.geometry.senseLines : Nat)
    let scaled := fun (spread : Int) => spread * (q.reporting.lx + 1) / extent
    let change := scaled p.spread - scaled c.spread
    ∃ dspread : Int, (-32768 ≤ change → change ≤ 32767 → dspread = change) ∧
      updateOf q p number c = { number := number, dx := x - rx, dy := y - ry, dspread := dspread
                                fingers := p.count, merged := 1 } := by
  intro extent scaled change
  have along : (extents q.reporting q.geometry).1 = extent := by
    simp only [extents, extent]
    cases q.reporting.swap <;> rfl
  have isScaled : ∀ spread, scaledSpread q.reporting q.geometry spread = scaled spread := fun spread =>
    congrArg (fun n => spread * ((q.reporting.lx : Int) + 1) / n) along
  refine ⟨spreadField q change, fun above below => ?_, ?_⟩
  · refine if_pos ?_
    simp only [clamp16, clampInt]
    omega
  · simp only [updateOf, place, reference, isScaled]
    rfl

/-! ## The stage's outcomes (R148, R151 to R157) -/

/-- The engine as a COMMITTED stage or the last participant's leaving finds it, its anchor given by the stage's result
where the spec names none (R149, R150). -/
def Gesture.anchoredAt (q : StageInputs) (g at_ : Gesture) : Gesture :=
  { g with anchorX := at_.anchorX, anchorY := at_.anchorY, anchorSpread := at_.anchorSpread, anchorTime := q.now, hold := 1 }

theorem Gesture.anchored_eq_anchoredAt (q : StageInputs) (p : Group) (g : Gesture) :
    g.anchored q p = g.anchoredAt q (g.anchored q p) := by
  obtain ⟨x, y, spread, anchored⟩ := g.anchored_eq q p
  rw [anchored]
  rfl

/-- The state machine's stage when no cause stops it and the switch has not changed. -/
theorem gestureStage_of_awake (mode : q.reporting.mode ≠ .contacts)
    (uncaused : ¬ (memberSuppressed g.members slots = true ∨ q.masked = true)) (same : q.switchClosed = g.switchSeen)
    (awake : g.state ≠ .blocked) :
    gestureStage q g slots =
      (advance q (groupOf slots) { engine := g, slots := slots, events := [] }).finished q (groupOf slots) := by
  have running : ¬ Stopped q g slots := by
    rintro (suppressed | masked | ⟨blocked, -⟩)
    · exact uncaused (.inl suppressed)
    · exact uncaused (.inr masked)
    · exact awake blocked
  rw [gestureStage_of_unchanged mode running same, Gesture.woken, if_neg awake]

theorem advance_of_gathering (state : g.state = .gathering) :
    advance q p { engine := g, slots := slots, events := [] } =
      gatheringStage q p { engine := (g.settle q p).raised p, slots := slots, events := [] } := by
  simp only [advance, state]

theorem advance_of_committed (state : g.state = .committed) :
    advance q p { engine := g, slots := slots, events := [] } =
      committedStage q p { engine := g, slots := slots, events := [] } := by
  simp only [advance, state]

/-- The engine when the last participant has left in GATHERING (R150, R155). -/
theorem Gesture.leaving_eq (empty : (groupOf slots).count = 0) :
    (g.settle q (groupOf slots)).raised (groupOf slots) =
      if g.members = [] then { g with hold := min 255 (g.hold + 1) } else g.anchored q (groupOf slots) := by
  rw [Gesture.raised_of_empty empty (groupOf_farthest_of_empty empty)]
  by_cases alone : g.members = []
  · rw [if_pos alone, Gesture.settle_of_same (by rw [empty, alone]; rfl)]
  · rw [if_neg alone, Gesture.settle_of_changed (by rw [empty]; exact (List.length_pos_iff.mpr alone).ne)]

/-- The last participant leaves in GATHERING: IDLE, and the first TAP that fits when the episode may end in one
(R155). -/
theorem gestureStage_of_leaving
    (stage : gestureStage q g slots =
      (advance q (groupOf slots) { engine := g, slots := slots, events := [] }).finished q (groupOf slots))
    (state : g.state = .gathering) (empty : (groupOf slots).count = 0) :
    let r := gestureStage q g slots
    let after : Gesture := { (if g.members = [] then { g with hold := min 255 (g.hold + 1) }
      else g.anchoredAt q r.engine) with state := .idle }
    ((g.tapEligible = false ∨ ∀ a ∈ q.table, ¬ TapsOn q g a) →
      r = ({ engine := after, slots := slots, events := [] } : StageResult).finished q (groupOf slots)) ∧
    (g.tapEligible = true → ∀ (m : Nat) (a : GestureEntry), q.table[m]? = some a → TapsOn q g a →
      (∀ (l : Nat) (b : GestureEntry), l < m → q.table[l]? = some b → ¬ TapsOn q g b) →
      r = ({ engine := after, slots := slots
             events := [.tapped a.code g.greatest (min 65535 (q.now - g.episodeStart).toNat)] } :
        StageResult).finished q (groupOf slots)) := by
  intro r after
  obtain ⟨e, isLeaving⟩ : ∃ e, (g.settle q (groupOf slots)).raised (groupOf slots) = e := ⟨_, rfl⟩
  have isE : e = if g.members = [] then { g with hold := min 255 (g.hold + 1) } else g.anchored q (groupOf slots) :=
    isLeaving.symm.trans (Gesture.leaving_eq empty)
  obtain ⟨eligible, greatest, travel, start⟩ : e.tapEligible = g.tapEligible ∧
      e.greatest = g.greatest ∧ e.fingerTravel = g.fingerTravel ∧
      e.episodeStart = g.episodeStart := by
    rw [isE]
    split
    · exact ⟨rfl, rfl, rfl, rfl⟩
    · rw [Gesture.anchored_eq_anchoredAt]
      exact ⟨rfl, rfl, rfl, rfl⟩
  have decided : r = (tapDecision q { engine := e, slots := slots, events := [] }).finished q (groupOf slots) := by
    refine stage.trans ?_
    rw [advance_of_gathering state, isLeaving]
    exact congrArg (StageResult.finished q (groupOf slots)) (if_pos empty)
  have sameTaps : ∀ a, TapsOn q e a ↔ TapsOn q g a := by
    intro a
    simp only [TapsOn, greatest, travel, start]
  have engine : r.engine = { e with state := .idle, members := (groupOf slots).members, switchSeen := q.switchClosed } := by
    rw [decided]
    rfl
  have isAfter : ({ e with state := .idle } : Gesture) = after := by
    have anchors : g.anchoredAt q r.engine = g.anchoredAt q e := by rw [engine]; rfl
    simp only [after, anchors]
    by_cases alone : g.members = []
    · rw [if_pos alone] at isE ⊢
      rw [isE]
    · rw [if_neg alone] at isE ⊢
      conv_lhs => rw [isE, Gesture.anchored_eq_anchoredAt, ← isE]
  refine ⟨fun none_taps => ?_, fun isEligible m a at_m taps first => ?_⟩
  · rw [decided, tapDecision_of_none, isAfter]
    exact none_taps.imp (eligible.trans ·) fun absent a inTable taps => absent a inTable ((sameTaps a).mp taps)
  · rw [decided, tapDecision_of_first (eligible.trans isEligible) at_m ((sameTaps a).mpr taps) fun l b before at_l holds =>
      first l b before at_l ((sameTaps b).mp holds), isAfter, greatest, start]

/-- A committed gesture ends when the last participant leaves (R154). -/
theorem gestureStage_of_ended
    (stage : gestureStage q g slots =
      (advance q (groupOf slots) { engine := g, slots := slots, events := [] }).finished q (groupOf slots))
    (state : g.state = .committed) (empty : (groupOf slots).count = 0) :
    gestureStage q g slots =
      ({ engine := { g.anchoredAt q (gestureStage q g slots).engine with state := .idle, committed := none }
         slots := slots, events := [.ended g.number .normal] } : StageResult).finished q (groupOf slots) := by
  obtain ⟨e, isAnchored⟩ : ∃ e, g.anchored q (groupOf slots) = e := ⟨_, rfl⟩
  have ended : gestureStage q g slots =
      ({ engine := { e with state := .idle, committed := none }, slots := slots, events := [.ended g.number .normal] } :
        StageResult).finished q (groupOf slots) := by
    refine stage.trans ?_
    rw [advance_of_committed state, ← isAnchored]
    exact congrArg (StageResult.finished q (groupOf slots)) (if_pos empty)
  have anchors : g.anchoredAt q (gestureStage q g slots).engine = e := by
    rw [ended, ← isAnchored, Gesture.anchored_eq_anchoredAt]
    rfl
  rw [anchors]
  exact ended

/-- An END NORMAL at a changed count (R154). -/
theorem committedStage_of_changed (some_fingers : p.count ≠ 0) (changed : p.count ≠ g.members.length) :
    committedStage q p { engine := g, slots := slots, events := [] } =
      { engine := { (g.anchored q p).raised p with state := .gathering, committed := none }, slots := slots
        events := [.ended g.number .normal] } :=
  (if_neg some_fingers).trans (if_neg changed)

/-- An UPDATE at an unchanged count (R154). -/
theorem committedStage_of_same {c : Committed} (some_fingers : p.count ≠ 0) (same : p.count = g.members.length)
    (committed : g.committed = some c) :
    committedStage q p { engine := g, slots := slots, events := [] } =
      { engine := { (g.settle q p).raised p with committed := some { c with x := p.x, y := p.y, spread := p.spread } }
        slots := slots, events := [.updated (updateOf q p g.number c)] } := by
  refine (if_neg some_fingers).trans ((if_pos same).trans ?_)
  simp only [committed, List.nil_append]

/-- Settles O34: the steps of a stage by the engine's state and the count, and its events as one of the state machine
and one of the switch. -/
theorem gestureStageEmitsItsEvents : Obligations.GestureStageEmitsItsEvents := by
  refine ⟨fun q g slots => ?events, fun e => ?rank, Slot.participates_iff, groupOf_features, ?stage⟩
  case rank => cases e <;> rfl
  case events =>
    obtain ⟨own, switched, events, emits, press⟩ := gestureStage_emits (q := q) g slots
    obtain ⟨once, notBoth, noBegin⟩ := ranks_of_emits emits press
    rw [← events] at once notBoth noBegin
    refine ⟨once, notBoth, noBegin, fun mode => gestureStage_of_contacts mode g slots, fun mode => ?_⟩
    rw [gestureStage_of_gestures mode]
    exact ⟨rfl, rfl⟩
  case stage =>
    intro q g slots mode r p last quiet cause clear anchored unplaced raised held
    rcases place : logical q.reporting q.geometry p.x p.y with ⟨x, y⟩
    have causeIff : cause ↔ memberSuppressed g.members slots = true ∨ q.masked = true := by
      rw [memberSuppressed_iff, or_comm]
    have gathers : ∀ e : Gesture, p.count ≠ 0 → e.number = g.number → e.pendingEnd = g.pendingEnd →
        r = (gatheringStage q p { engine := e, slots := slots, events := [] }).finished q p → Gathers q g slots r x y e :=
      fun e some_fingers number pending stage => gathers_of_gatheringStage some_fingers place number pending stage
    refine ⟨fun isCause => ?cause, fun uncaused blocked unclear => ?stays, fun uncaused same => ?awake⟩
    case cause =>
      refine (gestureStage_of_gestures mode g slots).trans ?_
      rw [gestureSteps_of_cause (causeIff.mp isCause)]
      exact congrArg (StageResult.mk _ _) (if_congr beq_iff_eq rfl rfl)
    case stays =>
      refine (gestureStage_of_gestures mode g slots).trans ?_
      rw [gestureSteps_of_blocked (mt causeIff.mpr uncaused) blocked
        (Bool.eq_false_iff.mpr fun isClear => unclear (padClear_iff.mp isClear))]
      rfl
    case awake =>
      have uncaused := mt causeIff.mpr uncaused
      have awake : g.state ≠ .blocked → r = (advance q p { engine := g, slots := slots, events := [] }).finished q p :=
        gestureStage_of_awake mode uncaused same
      refine ⟨fun blocked isClear => ?_, fun idle empty => ?_, fun idle nonempty => ?_, fun gathering nonempty unchanged => ?_,
        fun gathering nonempty changed => ?_, fun gathering empty => ?_, fun committed empty => ?_,
        fun committed nonempty changed => ?_, fun c committed isC nonempty unchanged => ?_⟩
      · have clears : padClear slots = true := padClear_iff.mpr isClear
        have running : ¬ Stopped q g slots := by
          rintro (suppressed | masked | ⟨-, unclear⟩)
          · exact uncaused (.inl suppressed)
          · exact uncaused (.inr masked)
          · exact nomatch clears.symm.trans unclear
        refine (gestureStage_of_unchanged mode running same).trans ?_
        rw [Gesture.woken, if_pos blocked]
        exact congrArg (StageResult.finished q p) (if_pos (groupOf_count_of_clear clears))
      · rw [awake (by simp [idle])]
        simp only [advance, idle]
        exact congrArg (StageResult.finished q p) (if_pos empty)
      · have some_fingers : p.count ≠ 0 := Nat.ne_zero_of_lt nonempty
        refine gathers _ some_fingers rfl rfl ((awake (by simp [idle])).trans ?_)
        simp only [advance, idle]
        refine congrArg (StageResult.finished q p) ((if_neg some_fingers).trans ?_)
        rw [Gesture.beginEpisode, Gesture.anchored_of_some some_fingers]
      · have some_fingers : p.count ≠ 0 := Nat.ne_zero_of_lt nonempty
        refine gathers _ some_fingers rfl rfl ((awake (by simp [gathering])).trans ?_)
        rw [advance_of_gathering gathering, Gesture.settle_of_same unchanged]
        rfl
      · have some_fingers : p.count ≠ 0 := Nat.ne_zero_of_lt nonempty
        refine gathers _ some_fingers rfl rfl ((awake (by simp [gathering])).trans ?_)
        rw [advance_of_gathering gathering, Gesture.settle_of_changed changed, Gesture.anchored_of_some some_fingers]
        rfl
      · exact gestureStage_of_leaving (awake (by simp [gathering])) gathering empty
      · exact gestureStage_of_ended (awake (by simp [committed])) committed empty
      · have some_fingers : p.count ≠ 0 := Nat.ne_zero_of_lt nonempty
        rw [awake (by simp [committed]), advance_of_committed committed, committedStage_of_changed some_fingers changed,
          Gesture.anchored_of_some some_fingers]
        rfl
      · have some_fingers : p.count ≠ 0 := Nat.ne_zero_of_lt nonempty
        rcases reference : logical q.reporting q.geometry c.x c.y with ⟨rx, ry⟩
        obtain ⟨dspread, fits, update⟩ := updateOf_eq (number := g.number) place reference
        refine ⟨dspread, fits, ?_⟩
        rw [awake (by simp [committed]), advance_of_committed committed,
          committedStage_of_same some_fingers unchanged isC, update, Gesture.settle_of_same unchanged]
        rfl

end Sys2Proof.Machine
end

section
/-! PROOFS. What the tracking step is made of: updates, admission, entries, the frame report and the offers of events
(R87 to R105, R148, R159, R160). -/

namespace Sys2Proof.Machine

variable {s : State}

/-! ## Updates (R89 to R92) -/

theorem Slot.candidate_iff (i : SurfaceId) (k : Slot) :
    k.candidate i = true ↔ k.surface = i ∧
      (k.state = .tentative ∨ k.state = .active ∨ k.state = .held ∨ k.state = .suppressed) := by
  cases state : k.state <;> simp [Slot.candidate, SlotState.tracked, state]

theorem TouchClass.suppressing_eq (c : TouchClass) : c.suppressing = decide (c = .palm ∨ c = .grip ∨ c = .large) := by
  cases c <;> rfl

theorem Slot.stopAfterGap_eq (i : SurfaceId) (n : Nat) (k : Slot) :
    k.stopAfterGap i n = if k.candidate i = true ∧ 8 < n then { k with vx := 0, vy := 0 } else k :=
  if_congr (by simp) rfl rfl

/-- The matched update (R89, R90). -/
theorem Slot.matched_eq (n : Nat) (r : Region) (k : Slot) :
    k.matched n r = { k with
      state := if k.state = .held then .active else k.state
      vx := (r.x - k.x).tdiv n, vy := (r.y - k.y).tdiv n, x := r.x, y := r.y, area := r.area, peak := r.peak
      touch := r.touch, mark := k.mark || decide (r.touch = .palm ∨ r.touch = .grip ∨ r.touch = .large)
      age := min 65535 (k.age + 1), missing := 0 } := by
  rw [← TouchClass.suppressing_eq]
  exact congrArg (fun st => ({ k with
    state := st, vx := (r.x - k.x).tdiv n, vy := (r.y - k.y).tdiv n, x := r.x, y := r.y, area := r.area, peak := r.peak
    touch := r.touch, mark := k.mark || r.touch.suppressing, age := bump k.age 1, missing := 0 } : Slot))
    (if_congr beq_iff_eq rfl rfl)

/-- The end of a coasting slot, case by case (R91). -/
theorem Slot.endCoast_of_closing {k : Slot} (closing : k.closing ≠ none) :
    k.endCoast = { k with state := .ending, reason := none } :=
  if_pos (Option.isSome_iff_ne_none.mpr closing)

theorem Slot.endCoast_of_announced {k : Slot} (noClosing : k.closing = none) (announced : k.announced = true)
    (opened : k.closed = false) :
    k.endCoast = { k with
      state := .ending, reason := none
      closing := some (k.snapshot (if k.mark = true then .cancel else .up)) } := by
  simp [Slot.endCoast, noClosing, announced, opened, Slot.setClosing, Slot.toEnding]

theorem Slot.endCoast_of_unannounced {k : Slot} (noClosing : k.closing = none)
    (silent : k.announced = false ∨ k.closed = true) : k.endCoast = .cleared := by
  rcases silent with unannounced | closed
  · simp [Slot.endCoast, noClosing, unannounced]
  · simp [Slot.endCoast, noClosing, closed]

/-- An ACTIVE or HELD slot that no region matches coasts in HELD. -/
def Slot.coasting (k : Slot) : Slot := { k with state := .held, missing := if k.state = .active then 1 else k.missing + 1 }

theorem Slot.unmatched_of_live {k : Slot} (live : k.state = .active ∨ k.state = .held) (coast : Nat) :
    k.unmatched coast = if coast < k.coasting.missing then k.coasting.endCoast else k.coasting := by
  rcases live with active | held
  · simp [Slot.unmatched, Slot.coasting, active]
  · simp [Slot.unmatched, Slot.coasting, held]

/-- What the unmatched update makes of each tracked slot (R91, R92). -/
theorem Slot.unmatched_cases (k : Slot) (coast : Nat) :
    let missing := if k.state = .active then 1 else k.missing + 1
    let held : Slot := { k with state := .held, missing := missing }
    let closing : Closing :=
      { kind := if k.mark = true then .cancel else .up, x := k.x, y := k.y, touch := k.touch, area := k.area,
        peak := k.peak, held := true }
    (k.state = .tentative → k.unmatched coast = .cleared) ∧
    ((k.state = .active ∨ k.state = .held) →
      (missing ≤ coast → k.unmatched coast = held) ∧
      (coast < missing →
        (k.closing ≠ none → k.unmatched coast = { held with state := .ending, reason := none }) ∧
        (k.closing = none → k.announced = true → k.closed = false →
          k.unmatched coast = { held with state := .ending, reason := none, closing := some closing }) ∧
        (k.closing = none → (k.announced = false ∨ k.closed = true) → k.unmatched coast = .cleared))) ∧
    (k.state = .suppressed →
      (k.closing ≠ none → k.unmatched coast = { k with state := .ending, reason := none }) ∧
      (k.closing = none → k.unmatched coast = .cleared)) := by
  intro missing held closing
  refine ⟨fun tentative => by simp [Slot.unmatched, tentative], fun live => ⟨fun within => ?_, fun beyond => ⟨?_, ?_, ?_⟩⟩,
    fun suppressed => ⟨fun some_closing => ?_, fun no_closing => by simp [Slot.unmatched, suppressed, no_closing]⟩⟩
  · exact (Slot.unmatched_of_live live coast).trans (if_neg (Nat.not_lt.mpr within))
  · exact fun some_closing => (Slot.unmatched_of_live live coast).trans
      ((if_pos beyond).trans (Slot.endCoast_of_closing (k := k.coasting) some_closing))
  · exact fun no_closing announced opened => (Slot.unmatched_of_live live coast).trans
      ((if_pos beyond).trans (Slot.endCoast_of_announced (k := k.coasting) no_closing announced opened))
  · exact fun no_closing silent => (Slot.unmatched_of_live live coast).trans
      ((if_pos beyond).trans (Slot.endCoast_of_unannounced (k := k.coasting) no_closing silent))
  · simp [Slot.unmatched, suppressed, Option.isSome_iff_ne_none.mpr some_closing, Slot.toEnding]

/-- The pair that a slot is in, pairing giving it at most one (R88). -/
theorem pairing_find?_of_mem {i : SurfaceId} {g : Geometry} {gate n : Nat} {slots : List Slot} {regions : List Region}
    {p : Pair} (paired : p ∈ pairing i g gate n slots regions) {m : Nat} (slot : p.slot = m) :
    (pairing i g gate n slots regions).find? (fun p => p.slot == m) = some p := by
  obtain ⟨-, distinct, -⟩ := pairingTakesTheNearestFirst i g gate n slots regions
  have once : ((pairing i g gate n slots regions).map (·.slot)).Nodup :=
    List.pairwise_map.mpr (distinct.imp fun differ => differ.left)
  obtain ⟨found, isFound⟩ : ∃ found, (pairing i g gate n slots regions).find? (fun p => p.slot == m) = some found :=
    Option.isSome_iff_exists.mp (List.find?_isSome.mpr ⟨p, paired, beq_iff_eq.mpr slot⟩)
  have sameSlot : found.slot = m := by simpa using List.find?_some isFound
  have same : found = p :=
    List.inj_on_of_nodup_map once (List.mem_of_find?_eq_some isFound) paired (sameSlot.trans slot.symm)
  rw [isFound, same]

/-- The slots after the updates (R89 to R92). -/
def updatedSlots (i : SurfaceId) (g : Geometry) (d : Detection) (n : Nat) (regions : List Region) (stopped : List Slot) :
    List Slot :=
  stopped.zipIdx.map (fun (k, index) => k.update i n d.coastFrames (pairing i g d.trackGate n stopped regions) regions
    index)

theorem updatedSlots_at {i : SurfaceId} {g : Geometry} {d : Detection} {n : Nat} {regions : List Region}
    {stopped : List Slot} {m : Nat} {k : Slot} (at_m : stopped[m]? = some k) :
    (updatedSlots i g d n regions stopped)[m]? =
      some (k.update i n d.coastFrames (pairing i g d.trackGate n stopped regions) regions m) := by
  simp [updatedSlots, List.getElem?_zipIdx, at_m]

theorem updatedSlots_cases {i : SurfaceId} {g : Geometry} {d : Detection} {n : Nat} {regions : List Region}
    {stopped : List Slot} {m : Nat} {k : Slot} (at_m : stopped[m]? = some k) :
    let pairs := pairing i g d.trackGate n stopped regions
    let updated := updatedSlots i g d n regions stopped
    (k.candidate i = false → updated[m]? = some k) ∧
    (∀ p ∈ pairs, p.slot = m → ∀ r : Region, regions[p.region]? = some r → updated[m]? = some (k.matched n r)) ∧
    (k.candidate i = true → (∀ p ∈ pairs, p.slot ≠ m) → updated[m]? = some (k.unmatched d.coastFrames)) := by
  intro pairs updated
  have updated_at : updated[m]? = some (k.update i n d.coastFrames pairs regions m) := updatedSlots_at at_m
  refine ⟨fun passed => ?_, fun p paired slot r isRegion => ?_, fun candidate unpaired => ?_⟩
  · simp [updated_at, Slot.update, passed]
  · have candidate : k.candidate i = true := by
      obtain ⟨eligible, -, -⟩ := pairingTakesTheNearestFirst i g d.trackGate n stopped regions
      obtain ⟨k', r', at_slot, -, candidate, -⟩ := eligible p paired
      rw [slot, at_m] at at_slot
      exact Option.some.inj at_slot ▸ candidate
    simp [updated_at, Slot.update, candidate, pairs, pairing_find?_of_mem paired slot, isRegion]
  · have notFound : pairs.find? (fun p => p.slot == m) = none := by simpa using unpaired
    simp [updated_at, Slot.update, candidate, notFound]

/-! ## Admission (R93 to R95) -/

theorem heldContact_exists_iff {slots : List Slot} {c : Nat} :
    heldContact slots c = true ↔ ∃ j ∈ slots, j.state ≠ .free ∧ j.contact = c := by
  simp [heldContact]

/-- The free contact is some advances away, and every value passed is held. -/
theorem freeContact_eq_advanced (slots : List Slot) (fuel c : Nat) :
    ∃ steps, freeContact slots fuel c = advanced steps c ∧
      ∀ n, n < steps → heldContact slots (advanced n c) = true := by
  induction fuel generalizing c with
  | zero => exact ⟨0, rfl, fun n before => absurd before (Nat.not_lt_zero n)⟩
  | succ fuel ih =>
    by_cases held : heldContact slots c = true
    · obtain ⟨steps, reaches, passes⟩ := ih (nextAfter c)
      refine ⟨steps + 1, by rw [freeContact, if_pos held, reaches]; rfl, fun n before => ?_⟩
      cases n with
      | zero => exact held
      | succ n => exact passes n (Nat.lt_of_succ_lt_succ before)
    · exact ⟨0, by rw [freeContact, if_neg held]; rfl, fun n before => absurd before (Nat.not_lt_zero n)⟩

/-- The contact ID of an admission: in range, free, and the first free from the counter on (R95). -/
theorem freeContact_first {slots : List Slot} {next : Nat} (length : slots.length = 16) (from_one : 1 ≤ next)
    (to_last : next ≤ 255) :
    let c := freeContact slots 255 next
    1 ≤ c ∧ c ≤ 255 ∧ (∀ j ∈ slots, j.state ≠ .free → j.contact ≠ c) ∧
      ∀ passed, passed < (c + 255 - next) % 255 → ∃ j ∈ slots, j.state ≠ .free ∧
        j.contact = (next - 1 + passed) % 255 + 1 := by
  intro c
  obtain ⟨fromOne, toLast⟩ := freeContact_range slots 255 ⟨from_one, to_last⟩
  refine ⟨fromOne, toLast, fun j inSlots live same => ?_, fun passed before => ?_⟩
  · exact freeContact_free length ⟨from_one, to_last⟩ ((heldContact_iff slots c).mp
      (heldContact_exists_iff.mpr ⟨j, inSlots, live, same⟩))
  · obtain ⟨steps, reaches, passes⟩ := freeContact_eq_advanced slots 255 next
    have distance : c = (next - 1 + steps) % 255 + 1 := reaches.trans (advanced_eq ⟨from_one, to_last⟩ steps)
    rw [← advanced_eq ⟨from_one, to_last⟩ passed]
    exact heldContact_exists_iff.mp (passes passed (by omega))

theorem Admission.region_of_refused {i : SurfaceId} {limit : Nat} {a : Admission} {r : Region}
    (full : limit ≤ slotsHeld i a.slots ∨ ∀ k ∈ a.slots, k.state ≠ .free) :
    Admission.region i limit a r = { a with refused := a.refused + 1 } := by
  unfold Admission.region
  rcases full with atLimit | noFree
  · exact if_neg (Nat.not_lt.mpr atLimit)
  · have notFound : a.slots.findIdx? (fun k => k.state == .free) = none := by simpa using noFree
    rw [notFound]
    split <;> rfl

theorem Admission.region_of_room {i : SurfaceId} {limit : Nat} {a : Admission} {r : Region}
    (below : slotsHeld i a.slots < limit) {m : Nat} {k : Slot} (at_m : a.slots[m]? = some k) (free : k.state = .free)
    (first : ∀ (l : Nat) (j : Slot), l < m → a.slots[l]? = some j → j.state ≠ .free) :
    Admission.region i limit a r = { a with
      slots := a.slots.set m (.admitted i (freeContact a.slots 255 a.nextContact) r)
      nextContact := nextAfter (freeContact a.slots 255 a.nextContact) } := by
  have found : a.slots.findIdx? (fun k => k.state == .free) = some m := by
    obtain ⟨inside, isK⟩ := List.getElem?_eq_some_iff.mp at_m
    refine List.findIdx?_eq_some_iff_getElem.mpr ⟨inside, by simp [isK, free], fun l before isFree => ?_⟩
    exact first l _ before (List.getElem?_eq_getElem (before.trans inside)) (beq_iff_eq.mp isFree)
  rw [Admission.region, if_pos below, found]

/-! ## Entries (R99, R100) -/

theorem Slot.entry_of_closing {rep : Reporting} {g : Geometry} {k : Slot} {c : Closing} (closing : k.closing = some c) :
    k.entry rep g = some
      { contact := k.contact, state := if c.kind = .up then .up else .cancel, touch := c.touch, held := c.held
        x := (logical rep g c.x c.y).1, y := (logical rep g c.x c.y).2, area := c.area, peak := c.peak } := by
  have state : c.kind.entryState = if c.kind = .up then .up else .cancel := by cases c.kind <;> rfl
  simp only [Slot.entry, closing, Slot.closingEntry, state]

theorem Slot.reportable_iff (k : Slot) :
    k.reportable = true ↔ (k.state = .active ∨ k.state = .held) ∧ k.closed = false ∧ k.mark = false := by
  simp [Slot.reportable, and_assoc]

theorem Slot.entry_of_reportable {rep : Reporting} {g : Geometry} {k : Slot} (noClosing : k.closing = none)
    (reportable : k.reportable = true) :
    k.entry rep g = some
      { contact := k.contact, state := if k.announced = true then .move else .down, touch := k.touch
        held := k.state == .held, x := (logical rep g k.x k.y).1, y := (logical rep g k.x k.y).2, area := k.area
        peak := k.peak } := by
  simp only [Slot.entry, noClosing, reportable, if_true, Slot.liveEntry]

theorem Slot.entry_of_silent {rep : Reporting} {g : Geometry} {k : Slot} (noClosing : k.closing = none)
    (silent : k.reportable = false) : k.entry rep g = none := by
  simp [Slot.entry, noClosing, silent]

/-- A placed report's effect on a slot it names (R104). -/
theorem Slot.placed_of_first {entries : List FrameEntry} {k : Slot} {n : Nat} {e : FrameEntry} (at_n : entries[n]? = some e)
    (names : e.contact = k.contact)
    (first : ∀ (m : Nat) (d : FrameEntry), m < n → entries[m]? = some d → d.contact ≠ k.contact) :
    (e.state = .down → k.placed entries = { k with announced := true }) ∧
    (e.state = .move → k.placed entries = k) ∧
    ((e.state = .up ∨ e.state = .cancel) →
      (k.state = .ending → (k.placed entries).state = .free) ∧
      (k.state ≠ .ending → k.placed entries = { k with closing := none, announced := false, closed := true })) := by
  have found : entries.find? (fun e => e.contact == k.contact) = some e :=
    find?_of_first at_n (beq_iff_eq.mpr names) fun m d before at_m same => first m d before at_m (beq_iff_eq.mp same)
  refine ⟨fun down => ?_, fun move => ?_, fun closes => ?_⟩
  · simp only [Slot.placed, found, down]
  · simp only [Slot.placed, found, move]
  · have closed : k.placed entries = if k.state = .ending then .cleared
        else { k with closing := none, announced := false, closed := true } := by
      rcases closes with up | cancel
      · simp only [Slot.placed, found, up, beq_iff_eq]
      · simp only [Slot.placed, found, cancel, beq_iff_eq]
    rw [closed]
    exact ⟨fun ending => by rw [if_pos ending]; rfl, fun live => if_neg live⟩

theorem Slot.placed_of_absent {entries : List FrameEntry} {k : Slot} (absent : ∀ e ∈ entries, e.contact ≠ k.contact) :
    k.placed entries = k := by
  have notFound : entries.find? (fun e => e.contact == k.contact) = none := by simpa using absent
  simp only [Slot.placed, notFound]

theorem logical_of_straight {rep : Reporting} (straight : rep.swap = false) (g : Geometry) (x y : Int) :
    logical rep g x y =
      ((if rep.invertX = true then 64 * (g.senseLines : Int) - 1 - x else x) * (rep.lx + 1) / (64 * (g.senseLines : Int)),
        (if rep.invertY = true then 64 * (g.driveLines : Int) - 1 - y else y) * (rep.ly + 1) /
          (64 * (g.driveLines : Int))) := by
  simp only [logical, extents, straight, Bool.false_eq_true, if_false]
  rfl

theorem logical_of_swapped {rep : Reporting} (swapped : rep.swap = true) (g : Geometry) (x y : Int) :
    logical rep g x y =
      ((if rep.invertY = true then 64 * (g.driveLines : Int) - 1 - y else y) * (rep.lx + 1) / (64 * (g.driveLines : Int)),
        (if rep.invertX = true then 64 * (g.senseLines : Int) - 1 - x else x) * (rep.ly + 1) /
          (64 * (g.senseLines : Int))) := by
  simp only [logical, extents, swapped, if_true]
  rfl

/-! ## The frame report (R101, R102, R104, R105) -/

/-- A frame report meets one of three outcomes, for the queue drops none (R163). -/
theorem State.offer_report_outcome (q : Byte) (t : BitVec 16) (r : FrameReport) :
    (s.offer q t (.frameReport r)).1 = .deferred ∨ (s.offer q t (.frameReport r)).1 = .appended ∨
      (s.offer q t (.frameReport r)).1 = .merged := by
  obtain ⟨h, -⟩ | ⟨_, -, -, h⟩ | ⟨-, -, h⟩ | ⟨drops, -, -⟩ := s.offer_cases q t (.frameReport r)
  · exact .inr (.inl (congrArg Prod.fst h))
  · exact .inr (.inr (congrArg Prod.fst h))
  · exact .inl (congrArg Prod.fst h)
  · exact nomatch drops

/-- A frame report that the queue defers changes no slot, and one that it places is applied to its surface's slots. -/
theorem State.offerFrameReport_eq (q : Byte) (t : BitVec 16) (r : FrameReport) :
    let o := s.offer q t (.frameReport r)
    (o.1 = .deferred → s.offerFrameReport q t r = o.2 ∧ o.2.slots = s.slots ∧ o.2.switchReported = s.switchReported) ∧
    (o.1 ≠ .deferred → (o.1 = .appended ∨ o.1 = .merged) ∧ s.offerFrameReport q t r = { o.2 with
      slots := s.slots.map (fun k => if k.ofSurface r.surface then k.placed r.entries else k)
      switchReported := if r.surface = .pad then r.switchClosed else s.switchReported }) := by
  intro o
  have placedIff : o.1.placed = true ↔ o.1 ≠ .deferred := State.offer_placed_iff rfl
  obtain ⟨_, _, _, _, _, _, frame⟩ := s.offer_frame q t (.frameReport r)
  refine ⟨fun deferred => ?_, fun placed => ⟨(s.offer_report_outcome q t r).resolve_left placed, ?_⟩⟩
  · obtain ⟨-, run⟩ | ⟨placed, -⟩ := s.offerFrameReport_cases q t r
    · refine ⟨run, ?_, ?_⟩
      · change (s.offer q t (.frameReport r)).2.slots = _
        rw [frame]
      · change (s.offer q t (.frameReport r)).2.switchReported = _
        rw [frame]
    · exact absurd deferred (placedIff.mp placed)
  · obtain ⟨notPlaced, -⟩ | ⟨-, run⟩ := s.offerFrameReport_cases q t r
    · exact absurd (placedIff.mpr placed) (by simp [o, notPlaced])
    · refine run.trans ?_
      have switch : (if r.surface == .pad then r.switchClosed else s.switchReported) =
          if r.surface = .pad then r.switchClosed else s.switchReported := if_congr beq_iff_eq rfl rfl
      rw [switch]

/-- The report of a frame: built when it has an entry, or full on PAD a new switch state (R101). -/
theorem State.frameReport_cases (i : SurfaceId) (f : ImageFrame) :
    let v := s.surface i
    let all := entriesOf i v.reporting v.geometry s.slots
    let full := v.reporting.mask.getLsbD (codeIn postureOrder s.posture) && v.reporting.mode != .gestures
    let entries := if full then all else all.filter (fun e => e.state == .up || e.state == .cancel)
    let due := entries ≠ [] ∨ (full = true ∧ i = .pad ∧ f.switchClosed ≠ s.switchReported)
    (¬ due → s.frameReport i f = s) ∧
    (due → s.frameReport i f = s.offerFrameReport f.sequence (low16 f.arrival)
      { surface := i, switchClosed := i == .pad && f.switchClosed, merged := 1, entries := entries }) := by
  intro v all full entries due
  have notDue : (entries.isEmpty && !(full && i == .pad && (i == .pad && f.switchClosed) != s.switchReported)) = true ↔
      ¬ due := by
    cases i with
    | pad =>
      cases isFull : full with
      | false => simp [due, isFull]
      | true => simp [due, isFull]
    | panel => simp [due]
  exact ⟨fun silent => if_pos (notDue.mpr silent), fun isDue => if_neg (mt notDue.mp (not_not_intro isDue))⟩

/-! ## The offers of events (R159, R160) -/

theorem State.offer_end_placed_iff (q : Byte) (t : BitVec 16) (number : Nat) (reason : EndReason) {e : PendingEnd} :
    (if (s.offer q t (.gestureEnd number reason 1)).1.placed then none else some e) =
      if (s.offer q t (.gestureEnd number reason 1)).1 = .deferred then some e else none := by
  by_cases deferred : (s.offer q t (.gestureEnd number reason 1)).1 = .deferred
  · rw [if_pos deferred, if_neg (mt (State.offer_placed_iff rfl).mp (not_not_intro deferred))]
  · rw [if_neg deferred, if_pos ((State.offer_placed_iff rfl).mpr deferred)]

/-- An END that is offered becomes the pending END when it is not placed (R160). -/
theorem State.offerEnd_of_offer (e : PendingEnd) :
    let o := s.offer e.sequence e.timestamp (.gestureEnd e.number e.reason 1)
    s.offerEnd e = { o.2 with gesture := { o.2.gesture with pendingEnd := if o.1 = .deferred then some e else none } } := by
  intro o
  rw [← State.offer_end_placed_iff]
  rfl

/-- A record that is never deferred is placed or dropped (R163). -/
theorem State.offer_dropped_iff {q : Byte} {t : BitVec 16} {b : Body} (general : b.defers = false) :
    (s.offer q t b).1 = .dropped ↔ (s.offer q t b).1.placed = false := by
  obtain ⟨h, -⟩ | ⟨_, -, -, h⟩ | ⟨defers, -, -⟩ | ⟨-, -, h⟩ := s.offer_cases q t b
  · simp [h, Placement.placed]
  · simp [h, Placement.placed]
  · exact nomatch general.symm.trans defers
  · simp [h, Placement.placed]

/-- A dropped BEGIN blocks the engine (R159). -/
theorem State.offerEvent_of_began (sequence : Byte) (timestamp : BitVec 16) (b : GestureBegin) :
    let o := s.offer sequence timestamp (.gestureBegin b)
    s.offerEvent sequence timestamp (.began b) =
      if o.1 = .dropped then { o.2 with gesture := { o.2.gesture with state := .blocked, committed := none } } else o.2 := by
  intro o
  have dropped : o.1 = .dropped ↔ o.1.placed = false := State.offer_dropped_iff rfl
  have run : s.offerEvent sequence timestamp (.began b) =
      if o.1.placed then o.2 else o.2.withGesture o.2.gesture.block := rfl
  rw [run]
  cases placed : o.1.placed with
  | true => rw [if_pos rfl, if_neg (by simp [dropped, placed])]
  | false => rw [if_neg Bool.false_ne_true, if_pos (dropped.mpr placed)]; rfl

end Sys2Proof.Machine
end

section
/-! PROOFS. The tracking step of a frame (R86): its stages, what each leaves, and the frame's completion. -/

namespace Sys2Proof.Machine

variable {s : State}

/-! ## What the step changes (R86) -/

/-- A state that the tracking step of a surface has reached: the surface stands as `w`, the wait of the request at the
head is noted, and only what the step may change has changed. -/
def Tracked (s : State) (i : SurfaceId) (w : Surface) (t : State) : Prop :=
  ∃ n l sw g q a m d x f fr p e c tr, t = State.withSurface { s with
    headWaited := s.headWaited || s.headWaits, nextContact := n, slots := l, switchReported := sw, gesture := g
    queue := q, attn := a, mergedCount := m, deferredCount := d, droppedCount := x, fault := f, free := fr, posture := p
    packetError := e, packetCrcCount := c, transaction := tr } i w

section Tracked

variable {i : SurfaceId} {w : Surface} {t : State}

theorem Tracked.of_contacts (tracked : Tracked s i w t) (n fr : Nat) (l : List Slot) (g : Gesture) :
    Tracked s i w { t with nextContact := n, slots := l, free := fr, gesture := g } := by
  obtain ⟨_, _, sw, _, q, a, m, d, x, f, _, p, e, c, tr, rfl⟩ := tracked
  exact ⟨n, l, sw, g, q, a, m, d, x, f, fr, p, e, c, tr, by cases i <;> rfl⟩

theorem Tracked.withSurface (tracked : Tracked s i w t) (w' : Surface) : Tracked s i w' (t.withSurface i w') := by
  obtain ⟨n, l, sw, g, q, a, m, d, x, f, fr, p, e, c, tr, rfl⟩ := tracked
  exact ⟨n, l, sw, g, q, a, m, d, x, f, fr, p, e, c, tr, State.withSurface_withSurface _ _ _ _⟩

theorem Tracked.raiseFault (tracked : Tracked s i w t) (k : FaultKind) (src : FaultSource) (sq : Byte) (detail : Nat) :
    Tracked s i w (t.raiseFault k src sq detail) := by
  obtain ⟨n, l, sw, g, _, _, m, d, x, _, fr, p, e, c, tr, rfl⟩ := tracked
  obtain ⟨f, q, a, raised⟩ := State.raiseFault_frame (State.withSurface _ i w) k src sq detail
  exact ⟨n, l, sw, g, q, a, m, d, x, f, fr, p, e, c, tr, raised.trans (by cases i <;> rfl)⟩

theorem Tracked.takeNotices (tracked : Tracked s i w t) (notices : List PostureNotice) :
    Tracked s i w (t.takeNotices notices) := by
  obtain ⟨n, l, sw, g, _, _, m, d, x, _, fr, _, _, _, _, rfl⟩ := tracked
  obtain ⟨p, f, q, a, e, c, tr, taken⟩ := State.takeNotices_frame (s := State.withSurface _ i w) notices
  exact ⟨n, l, sw, g, q, a, m, d, x, f, fr, p, e, c, tr, taken.trans (by cases i <;> rfl)⟩

theorem Tracked.frameReport (tracked : Tracked s i w t) (j : SurfaceId) (frame : ImageFrame) :
    Tracked s i w (t.frameReport j frame) := by
  obtain ⟨n, _, _, g, _, _, _, _, _, _, fr, p, e, c, tr, rfl⟩ := tracked
  obtain ⟨q, a, m, d, x, f, l, sw, reported⟩ := State.frameReport_frame (s := State.withSurface _ i w) j frame
  exact ⟨n, l, sw, g, q, a, m, d, x, f, fr, p, e, c, tr, reported.trans (by cases i <;> rfl)⟩

theorem Tracked.retryEnd (tracked : Tracked s i w t) : Tracked s i w t.retryEnd := by
  obtain ⟨n, l, sw, _, _, _, _, _, _, _, fr, p, e, c, tr, rfl⟩ := tracked
  obtain ⟨q, a, m, d, x, f, pending, offered⟩ := State.retryEnd_frame (s := State.withSurface _ i w)
  exact ⟨n, l, sw, _, q, a, m, d, x, f, fr, p, e, c, tr, offered.trans (by cases i <;> rfl)⟩

theorem Tracked.offerEvents (tracked : Tracked s i w t) (sq : Byte) (u : BitVec 16) (events : List GestureEvent) :
    Tracked s i w (t.offerEvents sq u events) := by
  obtain ⟨n, l, sw, _, _, _, _, _, _, _, fr, p, e, c, tr, rfl⟩ := tracked
  obtain ⟨q, a, m, d, x, f, g, offered⟩ := State.offerEvents_frame (s := State.withSurface _ i w) sq u events
  exact ⟨n, l, sw, g, q, a, m, d, x, f, fr, p, e, c, tr, offered.trans (by cases i <;> rfl)⟩

theorem Tracked.surface (tracked : Tracked s i w t) : t.surface i = w := by
  obtain ⟨_, _, _, _, _, _, _, _, _, _, _, _, _, _, _, rfl⟩ := tracked
  exact State.withSurface_surface _ _ _

theorem Tracked.other (tracked : Tracked s i w t) {j : SurfaceId} (other : j ≠ i) : t.surface j = s.surface j := by
  obtain ⟨_, _, _, _, _, _, _, _, _, _, _, _, _, _, _, rfl⟩ := tracked
  exact (State.withSurface_surface_ne _ other _).trans (by cases j <;> rfl)

theorem Tracked.started (tracked : Tracked s i w t) : t.started = s.started := by
  obtain ⟨_, _, _, _, _, _, _, _, _, _, _, _, _, _, _, rfl⟩ := tracked
  cases i <;> rfl

/-- Nothing else has changed. -/
theorem Tracked.whole (tracked : Tracked s i w t) :
    t = { s with
      pad := t.pad, panel := t.panel, slots := t.slots, nextContact := t.nextContact, gesture := t.gesture,
      switchReported := t.switchReported, queue := t.queue, attn := t.attn, mergedCount := t.mergedCount,
      deferredCount := t.deferredCount, droppedCount := t.droppedCount, fault := t.fault, free := t.free,
      posture := t.posture, packetError := t.packetError, packetCrcCount := t.packetCrcCount,
      transaction := t.transaction, headWaited := s.headWaited || s.headWaits } := by
  obtain ⟨_, _, _, _, _, _, _, _, _, _, _, _, _, _, _, rfl⟩ := tracked
  cases i <;> rfl

/-- What the head holds is what it held before the frame left flight (R25, R176). -/
theorem Tracked.holdsImage (tracked : Tracked s i w t) (left : w.imageFlight = none)
    (pen : w.penFlight = (s.surface i).penFlight) : t.holdsImage i = s.holdsImage i := by
  have surfaces : ∀ j, ((t.surface j).imageFlight.isSome = true → (s.surface j).imageFlight.isSome = true) ∧
      ((t.surface j).penFlight.isSome = true → (s.surface j).penFlight.isSome = true) := by
    intro j
    by_cases own : j = i
    · subst own
      rw [tracked.surface, left, pen]
      exact ⟨nofun, id⟩
    · rw [tracked.other own]
      exact ⟨id, id⟩
  refine State.holdsImage_of_noted ?_ ?_ (fun j => (surfaces j).left) (fun j => (surfaces j).right) i
  · obtain ⟨_, _, _, _, _, _, _, _, _, _, _, _, _, _, _, rfl⟩ := tracked
    cases i <;> rfl
  · obtain ⟨_, _, _, _, _, _, _, _, _, _, _, _, _, _, _, rfl⟩ := tracked
    cases i <;> rfl

/-- The next waiting frame is taken unless it is held (R25). -/
theorem Tracked.takeImage (tracked : Tracked s i w t) (left : w.imageFlight = none)
    (pen : w.penFlight = (s.surface i).penFlight) :
    t.takeImage i = t.withSurface i { w with
      imageSlot := if s.holdsImage i then w.imageSlot else none
      imageFlight := if s.holdsImage i then none
        else w.imageSlot.map (fun g => { frame := g, progress := .taken }) } := by
  rw [State.takeImage_eq, tracked.holdsImage left pen, tracked.surface]
  refine congrArg (t.withSurface i) ?_
  cases s.holdsImage i with
  | true => simp [Surface.imageTaken, left]
  | false => simp [Surface.imageTaken, left]

end Tracked

/-! ## Stages 1 to 5 (R86, R94) -/

theorem State.raiseFault_contacts (n : Nat) (l : List Slot) (k : FaultKind) (src : FaultSource) (q : Byte) (d : Nat) :
    ({ s with nextContact := n, slots := l } : State).raiseFault k src q d =
      { s.raiseFault k src q d with nextContact := n, slots := l } := by
  have alert (u : State) (f : FaultRecord) :
      ({ u with nextContact := n, slots := l } : State).requestAlert f =
        { u.requestAlert f with nextContact := n, slots := l } := by
    unfold State.requestAlert
    rw [show ({ u with nextContact := n, slots := l } : State).alertPresent = u.alertPresent from rfl]
    split
    · rfl
    · rfl
  unfold State.raiseFault
  dsimp only
  split
  · cases s.fault with
    | some f => rfl
    | none =>
      exact alert (s.withFault (some { kind := k, source := src, sequence := q, detail := d, timestamp := low16 s.time,
                                       more := false })) _
  · rfl

/-- The table after tracking and rejection, with TABLE_FULL counted and raised once for the regions refused. -/
theorem State.tableStages_eq (i : SurfaceId) (f : ImageFrame) (regions : List Region) :
    let v := s.surface i
    let a := trackRegions i v.geometry v.detection f.elapsed regions s.slots s.nextContact
    let counters : LinkCounters := if a.refused = 0 then v.counters
      else { v.counters with tableFull := min 65535 (v.counters.tableFull + 1) }
    let moved : State := State.withSurface { s with
      headWaited := s.headWaited || s.headWaits, nextContact := a.nextContact
      slots := (s.rejectionInputs i).stage a.slots } i { v with counters := counters }
    s.tableStages i f regions =
      if a.refused = 0 then moved else moved.raiseFault .tableFull .tracker f.sequence a.refused := by
  intro v a counters moved
  by_cases none_refused : a.refused = 0
  · have uncounted : counters = v.counters := if_pos none_refused
    have tableFull : s.noteWait.tableFull i f a.refused = s.noteWait := if_pos (beq_iff_eq.mpr none_refused)
    rw [if_pos none_refused]
    simp only [State.tableStages, moved, uncounted]
    rw [show s.noteWait.tableFull i f (trackRegions i (s.surface i).geometry (s.surface i).detection f.elapsed regions
      s.slots s.nextContact).refused = s.noteWait from tableFull]
    cases i <;> rfl
  · have counted : counters = { v.counters with tableFull := min 65535 (v.counters.tableFull + 1) } := if_neg none_refused
    have tableFull : s.noteWait.tableFull i f a.refused =
        (s.noteWait.countLink i (fun c => { c with tableFull := bump c.tableFull 1 })).raiseFault .tableFull .tracker
          f.sequence a.refused := if_neg (mt beq_iff_eq.mp none_refused)
    have isMoved : moved = { s.noteWait.countLink i (fun c => { c with tableFull := bump c.tableFull 1 }) with
        nextContact := a.nextContact, slots := (s.rejectionInputs i).stage a.slots } := by
      simp only [moved, counted]
      cases i <;> rfl
    rw [if_neg none_refused, isMoved, State.raiseFault_contacts, ← tableFull]
    rfl

/-! ## The notices (R15, R16) -/

/-- The state a POSTURE row leaves. -/
def postured (w : State) (n : PostureNotice) : State :=
  match exec (.posture n.tag n.payload) w with
  | .next w' => w'
  | _ => w

theorem postured_eq {w : State} (started : w.started = true) (n : PostureNotice) :
    postured w n = w.takeNotices [n] := by
  have row : exec (.posture n.tag n.payload) w = .next (w.takePosture n.tag n.payload) :=
    congrArg Host.Outcome.next (if_pos started)
  simp only [postured, row]
  rfl

theorem takeNotices_started (w : State) (notices : List PostureNotice) :
    (w.takeNotices notices).started = w.started := by
  obtain ⟨_, _, _, _, _, _, _, taken⟩ := w.takeNotices_frame notices
  rw [taken]

theorem foldl_postured {w : State} (started : w.started = true) (notices : List PostureNotice) :
    notices.foldl postured w = w.takeNotices notices := by
  induction notices generalizing w with
  | nil => rfl
  | cons n rest ih =>
    rw [List.foldl_cons, postured_eq started, ih ((takeNotices_started w [n]).trans started)]
    rfl

/-- Notices leave the slots, the engine, the counters of the tracker and the reported switch. -/
theorem takeNotices_keeps (w : State) (notices : List PostureNotice) :
    (w.takeNotices notices).slots = w.slots ∧ (w.takeNotices notices).nextContact = w.nextContact ∧
      (w.takeNotices notices).free = w.free ∧ (w.takeNotices notices).switchReported = w.switchReported := by
  obtain ⟨_, _, _, _, _, _, _, taken⟩ := w.takeNotices_frame notices
  rw [taken]
  exact ⟨rfl, rfl, rfl, rfl⟩

/-! ## The report and the events (R101, R159) -/

theorem frameReport_keeps (w : State) (i : SurfaceId) (f : ImageFrame) :
    (w.frameReport i f).nextContact = w.nextContact ∧ (w.frameReport i f).posture = w.posture ∧
      (w.frameReport i f).gesture = w.gesture ∧ (w.frameReport i f).packetError = w.packetError ∧
      (w.frameReport i f).packetCrcCount = w.packetCrcCount ∧ (w.frameReport i f).transaction = w.transaction := by
  obtain ⟨_, _, _, _, _, _, _, _, reported⟩ := w.frameReport_frame i f
  rw [reported]
  exact ⟨rfl, rfl, rfl, rfl, rfl, rfl⟩

theorem offerFrameReport_panel_switch (w : State) (q : Byte) (u : BitVec 16) {r : FrameReport}
    (panel : r.surface = .panel) : (w.offerFrameReport q u r).switchReported = w.switchReported := by
  obtain ⟨deferred, placed⟩ := State.offerFrameReport_eq (s := w) q u r
  by_cases outcome : (w.offer q u (.frameReport r)).1 = .deferred
  · obtain ⟨run, -, switch⟩ := deferred outcome
    rw [run, switch]
  · obtain ⟨-, run⟩ := placed outcome
    rw [run, panel]
    rfl

theorem frameReport_shape (w : State) (i : SurfaceId) (f : ImageFrame) :
    w.frameReport i f = w ∨
      ∃ r : FrameReport, r.surface = i ∧ w.frameReport i f = w.offerFrameReport f.sequence (low16 f.arrival) r := by
  obtain ⟨silent, reports⟩ := State.frameReport_cases (s := w) i f
  exact (Classical.em _).elim (fun due => .inr ⟨_, rfl, reports due⟩) fun notDue => .inl (silent notDue)

/-- A report of PANEL leaves PAD's reported switch. -/
theorem frameReport_panel_switch (w : State) (f : ImageFrame) :
    (w.frameReport .panel f).switchReported = w.switchReported := by
  rcases frameReport_shape w .panel f with silent | ⟨r, panel, reports⟩
  · rw [silent]
  · rw [reports, offerFrameReport_panel_switch w _ _ panel]

theorem offers_keep (w : State) (q : Byte) (u : BitVec 16) (events : List GestureEvent) :
    let t := w.retryEnd.offerEvents q u events
    t.slots = w.slots ∧ t.switchReported = w.switchReported ∧ t.nextContact = w.nextContact ∧ t.posture = w.posture ∧
      t.packetError = w.packetError ∧ t.packetCrcCount = w.packetCrcCount ∧ t.transaction = w.transaction := by
  intro t
  obtain ⟨_, _, _, _, _, _, _, offered⟩ := w.retryEnd.offerEvents_frame q u events
  obtain ⟨_, _, _, _, _, _, _, retried⟩ := w.retryEnd_frame
  rw [show t = _ from offered, retried]
  exact ⟨rfl, rfl, rfl, rfl, rfl, rfl, rfl⟩

/-! ## The step (R86) -/

theorem exec_trackingStep (started : s.started = true) {run : TrackingRun} {f : ImageFrame} {regions : List Region}
    {u : BaselineUpdate}
    (extracted : (s.surface run.surface).imageFlight = some { frame := f, progress := .extracted regions u }) :
    exec (.trackingStep run) s = .next (s.trackFrame run f regions u) := by
  have row : exec (.trackingStep run) s = .next (s.trackingStep run) := congrArg Host.Outcome.next (if_pos started)
  rw [row, State.trackingStep, extracted]

/-- The surface's counters after the regions refused are counted (R94). -/
def refusedCounters (v : Surface) (a : Admission) : LinkCounters :=
  if a.refused = 0 then v.counters else { v.counters with tableFull := min 65535 (v.counters.tableFull + 1) }

theorem tableStages_tracked (i : SurfaceId) (f : ImageFrame) (regions : List Region) :
    let v := s.surface i
    let a := trackRegions i v.geometry v.detection f.elapsed regions s.slots s.nextContact
    Tracked s i { v with counters := refusedCounters v a } (s.tableStages i f regions) ∧
      (s.tableStages i f regions).slots = (s.rejectionInputs i).stage a.slots ∧
      (s.tableStages i f regions).nextContact = a.nextContact ∧ (s.tableStages i f regions).gesture = s.gesture ∧
      (s.tableStages i f regions).free = s.free ∧ (s.tableStages i f regions).switchReported = s.switchReported ∧
      (s.tableStages i f regions).posture = s.posture ∧ (s.tableStages i f regions).packetError = s.packetError ∧
      (s.tableStages i f regions).packetCrcCount = s.packetCrcCount ∧
      (s.tableStages i f regions).transaction = s.transaction := by
  intro v a
  let moved : State := State.withSurface { s with
    headWaited := s.headWaited || s.headWaits, nextContact := a.nextContact
    slots := (s.rejectionInputs i).stage a.slots } i { v with counters := refusedCounters v a }
  have start : Tracked s i { v with counters := refusedCounters v a } moved :=
    ⟨_, _, _, _, _, _, _, _, _, _, _, _, _, _, _, rfl⟩
  have run : s.tableStages i f regions =
      if a.refused = 0 then moved else moved.raiseFault .tableFull .tracker f.sequence a.refused :=
    State.tableStages_eq i f regions
  have stands : moved.slots = (s.rejectionInputs i).stage a.slots ∧ moved.nextContact = a.nextContact ∧
      moved.gesture = s.gesture ∧ moved.free = s.free ∧ moved.switchReported = s.switchReported ∧
      moved.posture = s.posture ∧ moved.packetError = s.packetError ∧ moved.packetCrcCount = s.packetCrcCount ∧
      moved.transaction = s.transaction := by
    cases i <;> exact ⟨rfl, rfl, rfl, rfl, rfl, rfl, rfl, rfl, rfl⟩
  rw [run]
  split
  · exact ⟨start, stands⟩
  · refine ⟨start.raiseFault _ _ _ _, ?_⟩
    obtain ⟨_, _, _, raised⟩ := moved.raiseFault_frame .tableFull .tracker f.sequence a.refused
    rw [raised]
    exact stands

end Sys2Proof.Machine
end

section
/-! PROOFS. The tracking step completes its frame (R86 to R105, R148, R159, R160). -/

namespace Sys2Proof.Machine

variable {s : State}

/-- What the gesture stage leaves; PANEL has none (R86). -/
theorem gestureStageOf_eq {w : State} {staged : List Slot} {g : Gesture} (slots : w.slots = staged)
    (gesture : w.gesture = g) (i : SurfaceId) (f : ImageFrame) :
    let stage := gestureStage (w.stageInputs f) g staged
    w.gestureStageOf i f =
      { engine := if i = .pad then stage.engine else g
        slots := if i = .pad then stage.slots else staged
        events := if i = .pad then stage.events else [] } := by
  subst slots gesture
  cases i <;> rfl

/-- The report, then on PAD the pending END and the events, then the next frame (R86, R159). -/
theorem finishFrame_eq (w : State) (i : SurfaceId) (f : ImageFrame) (events : List GestureEvent) :
    w.finishFrame i f (if i = .pad then events else []) =
      (if i = .pad then (w.frameReport i f).retryEnd.offerEvents f.sequence (low16 f.arrival) events
        else w.frameReport i f).takeImage i := by
  cases i <;> rfl

/-- Offers on PAD leave what the report left of the slots, the reported switch and the notices. -/
theorem offered_keeps (w : State) (i : SurfaceId) (f : ImageFrame) (events : List GestureEvent) :
    let t := if i = .pad then w.retryEnd.offerEvents f.sequence (low16 f.arrival) events else w
    t.slots = w.slots ∧ t.switchReported = w.switchReported ∧ t.nextContact = w.nextContact ∧ t.posture = w.posture ∧
      t.packetError = w.packetError ∧ t.packetCrcCount = w.packetCrcCount ∧ t.transaction = w.transaction := by
  cases i with
  | pad => exact offers_keep w _ _ _
  | panel => exact ⟨rfl, rfl, rfl, rfl, rfl, rfl, rfl⟩

/-- A surface's context is no part of the rest of the state. -/
theorem withSurface_keeps (w : State) (i : SurfaceId) (v : Surface) :
    (w.withSurface i v).slots = w.slots ∧ (w.withSurface i v).switchReported = w.switchReported ∧
      (w.withSurface i v).nextContact = w.nextContact ∧ (w.withSurface i v).posture = w.posture ∧
      (w.withSurface i v).packetError = w.packetError ∧ (w.withSurface i v).packetCrcCount = w.packetCrcCount ∧
      (w.withSurface i v).transaction = w.transaction ∧ (w.withSurface i v).gesture = w.gesture := by
  cases i <;> exact ⟨rfl, rfl, rfl, rfl, rfl, rfl, rfl, rfl⟩

/-- The step of one frame, from the table to the next frame (R86). -/
theorem trackingStep_completes (run : TrackingRun) (f : ImageFrame) (regions : List Region) (u : BaselineUpdate)
    (started : s.started = true)
    (extracted : (s.surface run.surface).imageFlight = some { frame := f, progress := .extracted regions u }) :
    let i := run.surface
    let v := s.surface i
    let a := trackRegions i v.geometry v.detection f.elapsed regions s.slots s.nextContact
    let staged := (s.rejectionInputs i).stage a.slots
    let counters := refusedCounters v a
    let before : State := run.afterRejection.foldl postured (s.tableStages i f regions)
    let stage := gestureStage (before.stageInputs f) s.gesture staged
    let gestured : State := { before with
      slots := if i = .pad then stage.slots else staged, free := s.free + 1
      gesture := if i = .pad then stage.engine else s.gesture }
    let later : State := run.afterGestures.foldl postured gestured
    let reported : State := (later.withSurface i { v with
      baseline := u.baseline, driftCounter := u.driftCounter, anomalyCount := u.anomalyCount, imageFlight := none,
      lastTracked := f.sequence, counters := counters }).frameReport i f
    let offered : State := if i = .pad then reported.retryEnd.offerEvents f.sequence (low16 f.arrival) stage.events
      else reported
    ∃ t : State, exec (.trackingStep run) s = .next t ∧ t = offered.takeImage i ∧ t.slots = reported.slots ∧
      t.switchReported = reported.switchReported ∧ t.nextContact = a.nextContact ∧ t.posture = later.posture ∧
      t.surface i = { v with
        baseline := u.baseline, driftCounter := u.driftCounter, anomalyCount := u.anomalyCount,
        lastTracked := f.sequence, counters := counters
        imageSlot := if s.holdsImage i then v.imageSlot else none
        imageFlight := if s.holdsImage i then none
          else v.imageSlot.map (fun g => { frame := g, progress := .taken }) } ∧
      (∀ j, j ≠ i → t.surface j = s.surface j) ∧
      (i = .panel → t.gesture = s.gesture ∧ t.switchReported = s.switchReported) ∧
      (run.afterRejection = [] → run.afterGestures = [] →
        t.posture = s.posture ∧ t.packetError = s.packetError ∧ t.packetCrcCount = s.packetCrcCount ∧
        t.transaction = s.transaction) ∧
      t = { s with
            pad := t.pad, panel := t.panel, slots := t.slots, nextContact := t.nextContact, gesture := t.gesture,
            switchReported := t.switchReported, queue := t.queue, attn := t.attn, mergedCount := t.mergedCount,
            deferredCount := t.deferredCount, droppedCount := t.droppedCount, fault := t.fault, free := t.free,
            posture := t.posture, packetError := t.packetError, packetCrcCount := t.packetCrcCount,
            transaction := t.transaction, headWaited := s.headWaited || s.headWaits } := by
  intro i v a staged counters before stage gestured later reported offered
  obtain ⟨tableTracked, tableSlots, tableNext, tableGesture, tableFree, tableSwitch, tablePosture, tableError, tableCrc,
    tableTransaction⟩ := tableStages_tracked (s := s) i f regions
  have beforeIs : before = (s.tableStages i f regions).takeNotices run.afterRejection :=
    foldl_postured (tableTracked.started.trans started) _
  obtain ⟨noticeSlots, noticeNext, noticeFree, noticeSwitch⟩ :=
    takeNotices_keeps (s.tableStages i f regions) run.afterRejection
  have beforeTracked : Tracked s i { v with counters := counters } before := by
    rw [beforeIs]
    exact tableTracked.takeNotices _
  have beforeSlots : before.slots = staged := by rw [beforeIs, noticeSlots]; exact tableSlots
  have beforeNext : before.nextContact = a.nextContact := by rw [beforeIs, noticeNext]; exact tableNext
  have beforeFree : before.free = s.free := by rw [beforeIs, noticeFree]; exact tableFree
  have beforeSwitch : before.switchReported = s.switchReported := by rw [beforeIs, noticeSwitch]; exact tableSwitch
  have beforeGesture : before.gesture = s.gesture := by
    rw [beforeIs, Moves.takeNotices_gesture]
    exact tableGesture
  have gesturedTracked : Tracked s i { v with counters := counters } gestured :=
    beforeTracked.of_contacts before.nextContact (s.free + 1) (if i = .pad then stage.slots else staged)
      (if i = .pad then stage.engine else s.gesture)
  have laterIs : later = gestured.takeNotices run.afterGestures :=
    foldl_postured (gesturedTracked.started.trans started) _
  have laterTracked : Tracked s i { v with counters := counters } later := by
    rw [laterIs]
    exact gesturedTracked.takeNotices _
  obtain ⟨-, laterNext, -, laterSwitch⟩ := takeNotices_keeps gestured run.afterGestures
  rw [← laterIs] at laterNext laterSwitch
  have laterGesture : later.gesture = gestured.gesture := by rw [laterIs]; exact Moves.takeNotices_gesture _ _
  let w : Surface := { v with
    baseline := u.baseline, driftCounter := u.driftCounter, anomalyCount := u.anomalyCount, imageFlight := none
    lastTracked := f.sequence, counters := counters }
  obtain ⟨-, placedSwitch, placedNext, placedPosture, placedError, placedCrc, placedTransaction, placedGesture⟩ :=
    withSurface_keeps later i w
  obtain ⟨reportNext, reportPosture, reportGesture, reportError, reportCrc, reportTransaction⟩ :=
    frameReport_keeps (later.withSurface i w) i f
  have reportedTracked : Tracked s i w reported := (laterTracked.withSurface w).frameReport i f
  have offeredTracked : Tracked s i w offered := by
    simp only [offered]
    split
    · exact (reportedTracked.retryEnd).offerEvents _ _ _
    · exact reportedTracked
  obtain ⟨offerSlots, offerSwitch, offerNext, offerPosture, offerError, offerCrc, offerTransaction⟩ :=
    offered_keeps reported i f stage.events
  have taken := offeredTracked.takeImage rfl rfl
  have step : s.trackFrame run f regions u = offered.takeImage i := by
    have stageIs := gestureStageOf_eq beforeSlots beforeGesture i f
    have gesturedIs : (before.withFreeRead.withSlots (before.gestureStageOf i f).slots).withGesture
        (before.gestureStageOf i f).engine = gestured := by
      rw [stageIs]
      simp only [gestured, ← beforeFree]
      rfl
    have completed : (later.surface i).completed f u = w := by
      rw [laterTracked.surface]
      rfl
    unfold State.trackFrame
    dsimp only
    rw [← beforeIs, gesturedIs, ← laterIs, completed, stageIs]
    exact finishFrame_eq (later.withSurface i w) i f stage.events
  let final : Surface := { w with
    imageSlot := if s.holdsImage i then w.imageSlot else none
    imageFlight := if s.holdsImage i then none else w.imageSlot.map (fun g => { frame := g, progress := .taken }) }
  obtain ⟨takenSlots, takenSwitch, takenNext, takenPosture, takenError, takenCrc, takenTransaction, takenGesture⟩ :=
    withSurface_keeps offered i final
  have tracked : Tracked s i final (offered.takeImage i) := by
    rw [taken]
    exact offeredTracked.withSurface final
  refine ⟨offered.takeImage i, (exec_trackingStep started extracted).trans (congrArg Host.Outcome.next step), rfl, ?_, ?_,
    ?_, ?_, tracked.surface, fun j other => tracked.other other, fun isPanel => ⟨?_, ?_⟩, fun noFirst noSecond => ?_,
    tracked.whole⟩
  · rw [taken]
    exact takenSlots.trans offerSlots
  · rw [taken]
    exact takenSwitch.trans offerSwitch
  · rw [taken]
    exact takenNext.trans (offerNext.trans (reportNext.trans (placedNext.trans (laterNext.trans beforeNext))))
  · rw [taken]
    exact takenPosture.trans (offerPosture.trans (reportPosture.trans placedPosture))
  · rw [taken]
    have same : offered = reported := if_neg (by rw [isPanel]; decide)
    have engine : gestured.gesture = s.gesture := if_neg (by rw [isPanel]; decide)
    exact takenGesture.trans ((congrArg State.gesture same).trans
      (reportGesture.trans (placedGesture.trans (laterGesture.trans engine))))
  · rw [taken]
    have reportSwitch : reported.switchReported = (later.withSurface i w).switchReported := by
      simp only [reported, isPanel]
      exact frameReport_panel_switch _ f
    exact takenSwitch.trans (offerSwitch.trans (reportSwitch.trans (placedSwitch.trans (laterSwitch.trans beforeSwitch))))
  · have unnoticed : before = s.tableStages i f regions := by
      rw [beforeIs, noFirst]
      rfl
    have laterStands : later = gestured := by
      rw [laterIs, noSecond]
      rfl
    have laterFrom : later.posture = before.posture ∧ later.packetError = before.packetError ∧
        later.packetCrcCount = before.packetCrcCount ∧ later.transaction = before.transaction := by
      rw [laterStands]
      exact ⟨rfl, rfl, rfl, rfl⟩
    obtain ⟨laterPosture, laterError, laterCrc, laterTransaction⟩ := laterFrom
    rw [unnoticed] at laterPosture laterError laterCrc laterTransaction
    rw [taken]
    exact ⟨takenPosture.trans (offerPosture.trans (reportPosture.trans (placedPosture.trans
        (laterPosture.trans tablePosture)))),
      takenError.trans (offerError.trans (reportError.trans (placedError.trans (laterError.trans tableError)))),
      takenCrc.trans (offerCrc.trans (reportCrc.trans (placedCrc.trans (laterCrc.trans tableCrc)))),
      takenTransaction.trans (offerTransaction.trans (reportTransaction.trans (placedTransaction.trans
        (laterTransaction.trans tableTransaction))))⟩

/-- What tracking makes of the table, slot by slot, and which regions it admits (R87 to R93). -/
theorem trackRegions_updates (i : SurfaceId) (g : Geometry) (d : Detection) (n : Nat) (regions : List Region)
    (slots : List Slot) (next : Nat) :
    let stopped : List Slot := slots.map (fun k =>
      if k.candidate i = true ∧ 8 < n then { k with vx := 0, vy := 0 } else k)
    let updated := updatedSlots i g d n regions stopped
    updated.length = slots.length ∧
      trackRegions i g d n regions slots next =
        (unpairedRegions (pairing i g d.trackGate n stopped regions) regions).foldl (Admission.region i d.contactLimit)
          { slots := updated, nextContact := next, refused := 0 } := by
  intro stopped updated
  have stoppedIs : slots.map (Slot.stopAfterGap i n) = stopped :=
    List.map_congr_left fun k _ => Slot.stopAfterGap_eq i n k
  refine ⟨by simp [updated, updatedSlots, stopped], ?_⟩
  rw [← show updatedSlots i g d n regions (slots.map (Slot.stopAfterGap i n)) = updated by rw [stoppedIs], ← stoppedIs]
  rfl

/-- Settles O30: the step as its stages in order, each stage by the lemmas about its parts. -/
theorem trackingStepCompletesTheFrame : Obligations.TrackingStepCompletesTheFrame := by
  refine ⟨fun s run f regions u started extracted => ?step, fun s f => rfl, fun s i f => ?report,
    fun entries k => ⟨Slot.placed_of_absent, fun n e at_n names first => Slot.placed_of_first at_n names first⟩,
    Slot.candidate_iff, fun i g d n regions slots next => ?updates, fun i limit a r => ?admission,
    fun i rep g slots => rfl, fun rep g k => ?entry, fun rep g x y => ?place, fun s => ?retry,
    fun s sequence timestamp events => ?events⟩
  case step =>
    have completes := trackingStep_completes run f regions u started extracted
    dsimp only at completes
    rw [State.tableStages_eq] at completes
    exact completes
  case report =>
    intro v all full entries due o
    obtain ⟨silent, reports⟩ := State.frameReport_cases (s := s) i f
    obtain ⟨deferred, placed⟩ := State.offerFrameReport_eq (s := s) f.sequence (low16 f.arrival)
      { surface := i, switchClosed := i == .pad && f.switchClosed, merged := 1, entries := entries }
    refine ⟨silent, fun isDue isDeferred => ?_, fun isDue notDeferred => ?_⟩
    · rw [reports isDue]
      exact deferred isDeferred
    · obtain ⟨outcome, run⟩ := placed notDeferred
      refine ⟨outcome, (reports isDue).trans (run.trans ?_)⟩
      cases i <;> rfl
  case updates =>
    intro stopped pairs left
    obtain ⟨length, tracked⟩ := trackRegions_updates i g d n regions slots next
    refine ⟨_, length, tracked, fun m k at_m => ?_⟩
    obtain ⟨passed, matched, unmatched⟩ := updatedSlots_cases (i := i) (g := g) (d := d) (n := n) (regions := regions) at_m
    refine ⟨passed, fun p paired slot r isRegion => ?_, fun candidate unpaired => ?_⟩
    · rw [← Slot.matched_eq]
      exact matched p paired slot r isRegion
    · intro missing held closing
      rw [unmatched candidate unpaired]
      obtain ⟨tentative, live, suppressed⟩ := k.unmatched_cases d.coastFrames
      refine ⟨fun isTentative => congrArg some (tentative isTentative), fun isLive => ?_, fun isSuppressed => ?_⟩
      · obtain ⟨coasts, ends⟩ := live isLive
        refine ⟨fun within => congrArg some (coasts within), fun beyond => ?_⟩
        obtain ⟨withClosing, announced, silent⟩ := ends beyond
        exact ⟨fun some_closing => congrArg some (withClosing some_closing),
          fun no_closing isAnnounced opened => congrArg some (announced no_closing isAnnounced opened),
          fun no_closing isSilent => congrArg some (silent no_closing isSilent)⟩
      · obtain ⟨withClosing, cleared⟩ := suppressed isSuppressed
        exact ⟨fun some_closing => congrArg some (withClosing some_closing),
          fun no_closing => congrArg some (cleared no_closing)⟩
  case admission =>
    intro own
    refine ⟨fun full => Admission.region_of_refused full, fun below m k at_m free first => ?_⟩
    refine ⟨freeContact a.slots 255 a.nextContact, ?_, fun length fromOne toLast => freeContact_first length fromOne toLast⟩
    rw [Admission.region_of_room below at_m free first, nextAfter_eq, ← TouchClass.suppressing_eq]
    rfl
  case entry =>
    refine ⟨fun c closing => Slot.entry_of_closing closing, fun noClosing live opened unmarked => ?_,
      fun noClosing silent => ?_⟩
    · exact Slot.entry_of_reportable noClosing (k.reportable_iff.mpr ⟨live, opened, unmarked⟩)
    · refine Slot.entry_of_silent noClosing (Bool.eq_false_iff.mpr fun reportable => ?_)
      obtain ⟨live, opened, unmarked⟩ := k.reportable_iff.mp reportable
      rcases silent with ⟨notActive, notHeld⟩ | closed | marked
      · exact live.elim notActive notHeld
      · exact nomatch opened.symm.trans closed
      · exact nomatch unmarked.symm.trans marked
  case place =>
    exact ⟨fun straight => logical_of_straight straight g x y, fun swapped => logical_of_swapped swapped g x y⟩
  case retry =>
    refine ⟨fun silent => ?_, fun e pending => ?_⟩
    · simp only [State.retryEnd, silent]
    · simp only [State.retryEnd, pending]
      exact State.offerEnd_of_offer e
  case events =>
    intro told
    have isTold : told = fun u e => u.offerEvent sequence timestamp e := by
      funext u e
      cases e with
      | ended number reason =>
        exact (State.offerEnd_of_offer (s := u)
          { number := number, reason := reason, sequence := sequence, timestamp := timestamp }).symm
      | began b => exact (State.offerEvent_of_began sequence timestamp b).symm
      | tapped code fingers duration => rfl
      | updated x => rfl
      | pressed code fingers => rfl
      | released fingers => rfl
    rw [isTold]
    rfl

end Sys2Proof.Machine
end
